-- ==== Sys2Proof/Word.lean ====
section
/-! DEFINITION. The words of FBAT: what the spec gives a width of its own. -/

namespace Sys2Proof

/-- A framebuffer byte, a bus byte or a bit mask of one (R33, R46, R180). -/
abbrev Byte := BitVec 8

/-- A host command word or the contents of a 32-bit register (R91, R63). -/
abbrev CmdWord := BitVec 32

/-- A protocol-table entry or a micro-operation code (R100, R104). -/
abbrev Entry := BitVec 16

/-- A coordinate field of a host command word (R91). -/
abbrev Coord := BitVec 12

/-- A byte offset in the host register space (R60). -/
abbrev HostOffset := BitVec 22

/-- The index part of the sequencer's pointer (R40). -/
abbrev SeqIdx := BitVec 22

/-- An entry of `IndexTable` (R34). -/
abbrev LutIndex := BitVec 21

end Sys2Proof
end

