-- ==== Sys2Proof/Config.lean ====
section
/-! DEFINITION. The implementation parameters of rule R5, and the free values of the model as opaque constants. -/

namespace Sys2Proof

/-- `ORIENT` (R5). -/
inductive Orient where
  | portrait
  | landscape
deriving DecidableEq, Repr

/-- `STRATEGY` (R5): which form of the address translator the instance has. -/
inductive Strategy where
  | direct
  | shift
  | lut
deriving DecidableEq, Repr

/-- `OOR_POLICY` (R5, R181). -/
inductive OorPolicy where
  | drop
  | report
deriving DecidableEq, Repr

/-- A pin role's pin: an identifier, or `UNUSED` (R5). -/
inductive Pin where
  | unused
  | pin (id : Nat)
deriving DecidableEq, Repr

/-- `PIXEL_MAP` (R185). Another map than `STD_MAP` is given by the table of its values: the native bit index of
`(x, y)` stands at position `y * LW + x`, so that a configuration stays plain data. -/
inductive PixelMap where
  | std
  | other (table : List Nat)
deriving DecidableEq, Repr

/-- The outcome of a bounded wait on the bus (R8, R121). -/
inductive Wait where
  | ready
  | timeout
deriving DecidableEq, Repr, Inhabited

/-- The configuration of an instance (R5), fixed for its lifetime. -/
structure Config where
  /-- `W`: panel width in pixels. -/
  width : Nat
  /-- `H`: panel height in pixels. -/
  height : Nat
  orient : Orient
  strategy : Strategy
  pinDout : Pin
  pinSclk : Pin
  pinDc : Pin
  pinCs : Pin
  pinRst : Pin
  /-- `BUS_ID`: no rule depends on it. -/
  busId : Nat
  /-- `T_ACCEPT`: ticks; only `TCOUNT` depends on it. -/
  tAccept : Nat
  /-- `T_COMPLETE`: ticks; only `TCOUNT` depends on it. -/
  tComplete : Nat
  tRstHold : Nat
  tRstRecover : Nat
  /-- `TICK`: the time unit; no rule depends on it. -/
  tick : Nat
  initSeq : List Entry
  frameStartSeq : List Entry
  frameCommitSeq : List Entry
  oorPolicy : OorPolicy
  /-- `DC_CMD_LEVEL`: true is level 1. -/
  dcCmdLevel : Bool
  /-- `CS_ACTIVE_LEVEL`: true is level 1. -/
  csActiveLevel : Bool
  /-- `RST_ACTIVE_LEVEL`: true is level 1. -/
  rstActiveLevel : Bool
  /-- `BUS_MODE`: no rule depends on it. -/
  busMode : Nat
  /-- `BUS_CLOCK`: no rule depends on it. -/
  busClock : Nat
  pixelMap : PixelMap
  debugBounds : Bool
  /-- `FBAT_BASE` (R61): the platform's; no rule depends on it. -/
  fbatBase : Nat
deriving DecidableEq, Repr

/-- DESIGN CHOICE (log entry 2): the configuration of `State.reset`, the spec's example CFG-P (95_test_vectors.md
section 2): 10 x 3 portrait, and R5's defaults for strategy, policy, levels, map and debug check. The protocol bytes
are the spec's example values, not a panel's. No statement rests on it. -/
def Config.cfgP : Config where
  width := 10
  height := 3
  orient := .portrait
  strategy := .lut
  pinDout := .pin 0
  pinSclk := .pin 1
  pinDc := .pin 2
  pinCs := .pin 3
  pinRst := .pin 4
  busId := 0
  tAccept := 0
  tComplete := 0
  tRstHold := 10
  tRstRecover := 120
  tick := 0
  initSeq := [0x1011#16, 0x1029#16, 0x0000#16]
  frameStartSeq := [0x102C#16, 0x0000#16]
  frameCommitSeq := [0x103C#16, 0x0000#16]
  oorPolicy := .drop
  dcCmdLevel := false
  csActiveLevel := false
  rstActiveLevel := false
  busMode := 0
  busClock := 0
  pixelMap := .std
  debugBounds := false
  fbatBase := 0

/-- FREE VALUE (log entry 6): the bus's answer to the wait numbered by the model's counter `draws`, when no answer is
listed in `State.busAnswers` (R8, R121, U5). -/
opaque Config.busAnswer : Nat → Wait

/-- FREE VALUE (log entry 8): the tick in which a wait that ends `READY` was answered (R43). -/
opaque Config.readyTick : Nat → Nat

/-- FREE VALUE (log entry 4): the contents of `fb` after the block reset numbered by `epoch` (R48, U1); arguments: the
epoch, the byte index. -/
opaque Config.fbPowerOn : Nat → Nat → Byte

/-- FREE VALUE (log entry 7): a byte of a window read outside `READY` or while busy (R69, U2), numbered by `draws`. -/
opaque Config.windowByte : Nat → Byte

/-- FREE VALUE (log entry 12): entry `k` of `IndexTable` under another map than `STD_MAP` (R185 leaves the
re-derivation open); arguments: the map's table, `k`. -/
opaque Config.otherLutIndex : List Nat → Nat → LutIndex

/-- FREE VALUE (log entry 12): entry `k` of `BitMaskTable` under another map than `STD_MAP` (R185). -/
opaque Config.otherLutMask : List Nat → Nat → Byte

end Sys2Proof
end

