-- ==== Sys2Proof/Syntax.lean ====
section
/-! DEFINITION. The instructions: one constructor per row of spec/opcode_table.json (R95, R100, R104). -/

namespace Sys2Proof

/-- A host command, a protocol-table entry or a sequencer micro-operation. Bits a host command does not read (R92)
are no part of it, since a word acts exactly like its canonical word (R97). -/
inductive Instr where
  -- host command words (R95)
  | nop
  | init
  /-- `c`: true is `BLACK` (R161). -/
  | clear (c : Bool)
  | setPixel (x y : Coord) (c : Bool)
  | display
  | xlate (x y : Coord)
  | illegal6
  | illegal7
  | illegal8
  | illegal9
  | illegalA
  | illegalB
  | illegalC
  | illegalD
  | illegalE
  | illegalF
  -- protocol-table entries (R100)
  | endSeq
  | cmd (b : Byte)
  | data (b : Byte)
  -- sequencer micro-operations (R104)
  | resetPulse
  /-- `a`: true asserts the panel reset (R132). -/
  | setRstLevel (a : Bool)
  | sendBuffer
  | lutBuild
  | fbFill (c : Bool)
  /-- Index and mask come from the translator, the colour from `LATCH` (R163). -/
  | fbSetbit
deriving DecidableEq, Repr

/-- A word and where it comes from, which tells its kind (R90). -/
inductive Code where
  /-- Written by the host to `CMD`. -/
  | host (w : CmdWord)
  /-- Read from a protocol table. -/
  | table (e : Entry)
  /-- The sequencer's own code. -/
  | micro (e : Entry)
deriving DecidableEq, Repr

/-- Where a word comes from (R90). -/
inductive Source where
  | host
  | table
  | micro
deriving DecidableEq, Repr

/-- Where a code comes from (R90). -/
def Code.source : Code → Source
  | .host _ => .host
  | .table _ => .table
  | .micro _ => .micro

end Sys2Proof
end

