-- ==== Sys2Proof/WellFormed.lean ====
section
/-! DEFINITION. Well-formedness: which instruction a word of each kind may be (R90), and which configuration the
block's rules hold for (R5, R102, R185). -/

namespace Sys2Proof

/-- The words of a source that stand for the instruction exist (R90, R95, R100, R104): a host command is no table
entry, a micro-operation with `KIND >= 8` is admitted in no table (R102), and `END` is no micro-operation. -/
def Instr.wellFormedFor (i : Instr) (src : Source) : Bool :=
  match i, src with
  | .endSeq, .table => true
  | .cmd _, .table => true
  | .data _, .table => true
  | .cmd _, .micro => true
  | .data _, .micro => true
  | .resetPulse, .micro => true
  | .setRstLevel _, .micro => true
  | .sendBuffer, .micro => true
  | .lutBuild, .micro => true
  | .fbFill _, .micro => true
  | .fbSetbit, .micro => true
  | .endSeq, _ => false
  | .cmd _, _ => false
  | .data _, _ => false
  | .resetPulse, _ => false
  | .setRstLevel _, _ => false
  | .sendBuffer, _ => false
  | .lutBuild, _ => false
  | .fbFill _, _ => false
  | .fbSetbit, _ => false
  | _, .host => true
  | _, _ => false

/-- An entry that may stand before a table's last: `KIND` 1 or 2 and `RSV = 0` (R102 clause 3). -/
def entrySends (e : Entry) : Bool :=
  (e &&& 0xFF00#16 == 0x1000#16) || (e &&& 0xFF00#16 == 0x2000#16)

/-- Every entry but the last sends, and the last is `END` (R102 clauses 2 and 3). -/
def tableShape : List Entry → Bool
  | [] => false
  | [e] => e == 0x0000#16
  | e :: rest => entrySends e && tableShape rest

/-- A well-formed protocol table (R102). -/
def tableWf (t : List Entry) : Bool :=
  decide (1 ≤ t.length) && decide (t.length ≤ 65536) && tableShape t

/-- `PIN_DOUT` and `PIN_SCLK` may not be `UNUSED` (R5). -/
def Pin.used : Pin → Bool
  | .unused => false
  | .pin _ => true

/-- Another map than `STD_MAP` gives each of the `W * H` coordinates a native bit index of its own below `W * H`
(R185: the map is injective into `[0, NPIX)`). -/
def PixelMap.wf (npix : Nat) : PixelMap → Bool
  | .std => true
  | .other t => (t.length == npix) && t.all (fun n => decide (n < npix)) && decide t.Nodup

/-- A well-formed configuration (R5): panel size in range, the two needed pins used, the protocol tables well-formed,
the pixel map admitted. A step from any other is refused. -/
def Config.wf (c : Config) : Bool :=
  decide (1 ≤ c.width) && decide (c.width ≤ 4096) && decide (1 ≤ c.height) && decide (c.height ≤ 4096)
    && c.pinDout.used && c.pinSclk.used
    && tableWf c.initSeq && tableWf c.frameStartSeq && tableWf c.frameCommitSeq
    && c.pixelMap.wf (c.width * c.height)

end Sys2Proof
end

