-- ==== Sys2Proof/Decode.lean ====
section
/-! DEFINITION. The decoder and the encoder of the three word kinds (R90-R104). -/

namespace Sys2Proof

/-- Why a word that is not a host command names no instruction (R102, R104; every host word names one, R98). -/
inductive Reject where
  /-- A table entry with `KIND` 3 to 15 (R100, R102). -/
  | kindNotInTable
  /-- A code whose `KIND` is 0, 3-7 or 14-15, which name no micro-operation (R104). -/
  | kindUnnamed
  /-- An entry or code whose `RSV` field is not 0 (R100, R102). -/
  | reservedBits
  /-- An entry or code with a `BYTE` its operation does not have: `END` with a byte, or a micro-operation's unused
  operand bits (R100, R104). -/
  | operandBits
deriving DecidableEq, Repr

/-! ### Fields (R91, R93, R100) -/

/-- `OP = cmd[31:28]`. -/
def opField (w : CmdWord) : BitVec 4 := w.extractLsb' 28 4

/-- `C = cmd[24]`: true is `BLACK` (R93, R161). -/
def colourField (w : CmdWord) : Bool := w.getLsbD 24

/-- `Y = cmd[23:12]`. -/
def yField (w : CmdWord) : Coord := w.extractLsb' 12 12

/-- `X = cmd[11:0]`. -/
def xField (w : CmdWord) : Coord := w.extractLsb' 0 12

/-- `KIND = e[15:12]`. -/
def kindField (e : Entry) : BitVec 4 := e.extractLsb' 12 4

/-- `RSV = e[11:8]`. -/
def rsvField (e : Entry) : BitVec 4 := e.extractLsb' 8 4

/-- `BYTE = e[7:0]`. -/
def byteField (e : Entry) : Byte := e.extractLsb' 0 8

/-! ### Decoding -/

/-- Every 32-bit word is one of the six operations or illegal (R98), by `OP` alone (R95, R96). -/
def decodeHost (w : CmdWord) : Instr :=
  match (opField w).toNat with
  | 0 => .nop
  | 1 => .init
  | 2 => .clear (colourField w)
  | 3 => .setPixel (xField w) (yField w) (colourField w)
  | 4 => .display
  | 5 => .xlate (xField w) (yField w)
  | 6 => .illegal6
  | 7 => .illegal7
  | 8 => .illegal8
  | 9 => .illegal9
  | 10 => .illegalA
  | 11 => .illegalB
  | 12 => .illegalC
  | 13 => .illegalD
  | 14 => .illegalE
  | _ => .illegalF

/-- A protocol-table entry (R100, R102). -/
def decodeEntry (e : Entry) : Except Reject Instr :=
  match (kindField e).toNat with
  | 0 =>
    if rsvField e ≠ 0 then .error .reservedBits
    else if byteField e ≠ 0 then .error .operandBits
    else .ok .endSeq
  | 1 => if rsvField e ≠ 0 then .error .reservedBits else .ok (.cmd (byteField e))
  | 2 => if rsvField e ≠ 0 then .error .reservedBits else .ok (.data (byteField e))
  | _ => .error .kindNotInTable

/-- The operation `i` of a code whose `BYTE` may hold only the bits of `operand` (R104). -/
def microOp (e : Entry) (operand : Byte) (i : Instr) : Except Reject Instr :=
  if rsvField e ≠ 0 then .error .reservedBits
  else if byteField e &&& ~~~operand ≠ 0 then .error .operandBits
  else .ok i

/-- A micro-operation code (R104). -/
def decodeMicro (e : Entry) : Except Reject Instr :=
  match (kindField e).toNat with
  | 1 => microOp e 0xFF#8 (.cmd (byteField e))
  | 2 => microOp e 0xFF#8 (.data (byteField e))
  | 8 => microOp e 0x00#8 .resetPulse
  | 9 => microOp e 0x01#8 (.setRstLevel (e.getLsbD 0))
  | 10 => microOp e 0x00#8 .sendBuffer
  | 11 => microOp e 0x00#8 .lutBuild
  | 12 => microOp e 0x01#8 (.fbFill (e.getLsbD 0))
  | 13 => microOp e 0x00#8 .fbSetbit
  | _ => .error .kindUnnamed

/-- The instruction of a word; where it comes from tells its kind (R90). -/
def decode : Code → Except Reject Instr
  | .host w => .ok (decodeHost w)
  | .table e => decodeEntry e
  | .micro e => decodeMicro e

/-! ### Encoding -/

/-- `word(OP, C, Y, X) = (OP << 28) | (C << 24) | (Y << 12) | X` (R94). -/
def hostWord (op : BitVec 4) (c : Bool) (y x : Coord) : CmdWord :=
  (op.setWidth 32 <<< 28) ||| ((BitVec.ofBool c).setWidth 32 <<< 24) ||| (y.setWidth 32 <<< 12) ||| x.setWidth 32

/-- An entry or code with `RSV = 0` (R100, R104). -/
def entryWord (kind : BitVec 4) (b : Byte) : Entry := (kind.setWidth 16 <<< 12) ||| b.setWidth 16

/-- A one-bit operand in a code's `BYTE` (R104). -/
def bitByte (b : Bool) : Byte := (BitVec.ofBool b).setWidth 8

/-- The word of an instruction, in the format of its row of the opcode table, every ignored bit 0 (R94, R97, R100,
R104). -/
def encode : Instr → Code
  | .nop => .host (hostWord 0x0#4 false 0 0)
  | .init => .host (hostWord 0x1#4 false 0 0)
  | .clear c => .host (hostWord 0x2#4 c 0 0)
  | .setPixel x y c => .host (hostWord 0x3#4 c y x)
  | .display => .host (hostWord 0x4#4 false 0 0)
  | .xlate x y => .host (hostWord 0x5#4 false y x)
  | .illegal6 => .host (hostWord 0x6#4 false 0 0)
  | .illegal7 => .host (hostWord 0x7#4 false 0 0)
  | .illegal8 => .host (hostWord 0x8#4 false 0 0)
  | .illegal9 => .host (hostWord 0x9#4 false 0 0)
  | .illegalA => .host (hostWord 0xA#4 false 0 0)
  | .illegalB => .host (hostWord 0xB#4 false 0 0)
  | .illegalC => .host (hostWord 0xC#4 false 0 0)
  | .illegalD => .host (hostWord 0xD#4 false 0 0)
  | .illegalE => .host (hostWord 0xE#4 false 0 0)
  | .illegalF => .host (hostWord 0xF#4 false 0 0)
  | .endSeq => .table (entryWord 0x0#4 0)
  | .cmd b => .table (entryWord 0x1#4 b)
  | .data b => .table (entryWord 0x2#4 b)
  | .resetPulse => .micro (entryWord 0x8#4 0)
  | .setRstLevel a => .micro (entryWord 0x9#4 (bitByte a))
  | .sendBuffer => .micro (entryWord 0xA#4 0)
  | .lutBuild => .micro (entryWord 0xB#4 0)
  | .fbFill c => .micro (entryWord 0xC#4 (bitByte c))
  | .fbSetbit => .micro (entryWord 0xD#4 0)

/-- The code of a table row's word: 32 bits are a host command; 16 bits are a table entry when `KIND` is below 3 (the
kinds a table may hold, R100), else a micro-operation code (R104). -/
def codeOfTableWord (nbits w : Nat) : Code :=
  if nbits = 32 then .host (BitVec.ofNat 32 w)
  else if (kindField (BitVec.ofNat 16 w)).toNat < 3 then .table (BitVec.ofNat 16 w)
  else .micro (BitVec.ofNat 16 w)

/-- The instruction the decoder reads from a word of `nbits` bits numbered as the opcode table numbers them. The
formats have 32 or 16 bits (R90); no other width is a word of the block. -/
def decodeTableWord (nbits w : Nat) : Option Instr :=
  if nbits = 32 ∨ nbits = 16 then (decode (codeOfTableWord nbits w)).toOption else none

end Sys2Proof
end

