-- ==== Sys2Proof/Machine/State.lean ====
section
/-! DEFINITION. The state of the block (10_state.md), of the host and bus agents, why a step can stop, and reset. -/

namespace Sys2Proof.Machine

/-- `CTRL` (R22); the reserved values 5 to 7 are never held (X4). -/
inductive Ctrl where
  | uninit
  | initializing
  | ready
  | rendering
  | failed
deriving DecidableEq, Repr

/-- `STATUS.LAST_ERR` (R26); the reserved codes 5 to 7 are never written. -/
inductive ErrCode where
  | none
  | transportTimeout
  | invalidState
  | illegalOp
  | outOfRange
deriving DecidableEq, Repr

/-- `seq.phase` (R41); the reserved values 10 to 15 are never held. -/
inductive Phase where
  | idle
  | exec
  | initReset
  | initSeq
  | initBuild
  | dispStart
  | dispBufOpen
  | dispBuf
  | dispBufClose
  | dispCommit
deriving DecidableEq, Repr

/-- What an output line holds (R36): `0`, `1` or `Z` (undriven). -/
inductive Level where
  | low
  | high
  | z
deriving DecidableEq, Repr

/-- The line roles the sequencer drives (R36, R120). -/
inductive Role where
  | dc
  | cs
  | rst
deriving DecidableEq, Repr

/-- A trace event (R46). -/
inductive Event where
  | line (role : Role) (level : Level)
  | delay (t : Nat)
  | byte (b : Byte)
  | done
  | abort
deriving DecidableEq, Repr

/-- What the host's program does next (R106): a read or write of the register space at a byte offset, `n` bytes
wide, or the program's own control flow. -/
inductive HostOp where
  | read (off : HostOffset) (n : Nat)
  /-- `v`: what a 32-bit write carries; a write of any other width is ignored whatever it carries (R64). -/
  | write (off : HostOffset) (n : Nat) (v : CmdWord)
  /-- Branch if the last 32-bit read of `STATUS` had bit 0 = 1. -/
  | brBusy (target : Nat)
  | halt
deriving DecidableEq, Repr

/-- A value the host read: the offset, and the byte lanes it got, the lowest offset first (R65). -/
structure HostRead where
  off : HostOffset
  lanes : List Byte
deriving DecidableEq, Repr

/-- The host agent (R7, R106, R331). The model's own fields (log entry 10). -/
structure HostAgent where
  program : List HostOp
  pc : Nat
  halted : Bool
  /-- Bit 0 of the last 32-bit read of `STATUS`. -/
  lastBusy : Bool
  /-- What the host program read, the oldest first (R331). -/
  reads : List HostRead
deriving DecidableEq, Repr

/-- Which agent moves (R247). The bus moves only by answering a wait. -/
inductive Turn where
  | host
  | sequencer
  /-- Block reset is asserted (R301, R330). -/
  | blockReset
deriving DecidableEq, Repr

/-- Memory as cells (address, byte) at strictly rising addresses. An unlisted address has no value here; what a
framebuffer byte nothing has written reads as is said in one place, `State.fbByte`. -/
abbrev Memory := List Host.Cell

/-- Everything the spec gives the machine, and the agents around it. -/
structure State where
  /-- The configuration (R5): the argument of the step, carried unchanged (log entry 1). -/
  cfg : Config
  /-- `LATCH` (R21); while `busy` is false the spec leaves it unspecified (U4) and nothing in a run reads it (log
  entry 3). -/
  latch : CmdWord
  /-- `CTRL`, read as `STATUS.STATE` (R22). -/
  ctrl : Ctrl
  /-- `STATUS.BUSY` (R24). -/
  busy : Bool
  /-- `STATUS.LAST_ERR` (R26). -/
  lastErr : ErrCode
  /-- `STATUS.COLLIDE` (R27). -/
  collide : Bool
  /-- `STATUS.TORN` (R28). -/
  torn : Bool
  /-- `STATUS.RST_DONE` (R29). -/
  rstDone : Bool
  /-- `RESULT` (R30). -/
  result : CmdWord
  /-- `fb` (R33): byte `i` at address `i`. -/
  fb : Memory
  /-- `IndexTable` (R34). -/
  lutIndex : List LutIndex
  /-- `BitMaskTable` (R34). -/
  lutMask : List Byte
  /-- `LUT_VALID` (R34). -/
  lutValid : Bool
  /-- `LINE_DC` (R36). -/
  lineDc : Level
  /-- `LINE_CS` (R36). -/
  lineCs : Level
  /-- `LINE_RST` (R36). -/
  lineRst : Level
  /-- `seq.phase` (R41). -/
  phase : Phase
  /-- `seq.idx` (R42). -/
  idx : SeqIdx
  /-- `TCOUNT` (R43). -/
  tcount : Nat
  /-- `TXN_OPEN` (R44). -/
  txnOpen : Bool
  /-- `TRACE` (R45), the oldest event first. -/
  trace : List Event
  /-- The model's own (log entry 11): a micro-operation code issued alone; `none` in every run. -/
  uop : Option Entry
  /-- The model's own (log entry 6): the bus's answers to come, the next first. -/
  busAnswers : List Wait
  /-- The model's own (log entries 6, 7): how many free values have been drawn. -/
  draws : Nat
  /-- The model's own (log entry 4): how many block resets there have been. -/
  epoch : Nat
  /-- The model's own (log entry 9): which agent moves next, the next first. -/
  turns : List Turn
  /-- The host agent (log entry 10). -/
  host : HostAgent
deriving DecidableEq, Repr

/-- Why the machine stops with a fault. The block itself never faults (R270): each is a modelling outcome of rule
R11, for an agent with no step or for a precondition the hardware leaves unchecked and no run breaks. Every one is
safe: it can only make a claim about such a state unprovable. -/
inductive Fault where
  /-- Raised by `step`: the sequencer's turn came while it is `IDLE`. The outcome Stuck of R11 (R41). Safe. -/
  | sequencerStuck
  /-- Raised by `step`: the host's turn came after `HALT` or past its program's end. The outcome Stuck of R11. Safe. -/
  | hostStuck
  /-- Raised by `FB_SETBIT` outside the framebuffer or with a mask not one-hot, `DEBUG_BOUNDS = ON` (R164, F3). Safe. -/
  | debugBounds
  /-- Raised by `FB_SETBIT` outside the framebuffer or with a mask not one-hot, `DEBUG_BOUNDS = OFF` (R164, F3). Safe. -/
  | setBitUnchecked
  /-- Raised by `FB_SETBIT` issued alone when the translator gives no address for the latched coordinate (R163). Safe. -/
  | setBitNoAddress
  /-- Raised by `RESET_PULSE`, `CMD` and `DATA`: the assertion on `RST_DONE` of R123 and R130 fails (R131, F4). Safe. -/
  | resetOrder
  /-- Raised by `step`: `seq.idx` lies outside the protocol table (R140). Safe. -/
  | tableIndex
  /-- Raised by `SEND_BUFFER`: `seq.idx` lies outside the framebuffer (R127, R166). Safe. -/
  | streamIndex
  /-- Raised by `END`, `CMD`, `DATA` and `SEND_BUFFER` in a phase that does not run them (R126-R128, R140, R141). Safe. -/
  | phaseMismatch
  /-- Raised by `step`: a `NOP` in `LATCH`, which R221 says is never latched. Safe. -/
  | nopLatched
  /-- Raised by `step`: a code the decoder rejects (R102, R104 keep it from being fetched). Safe. -/
  | undecodable
  /-- Raised by `SET_PIXEL`, `XLATE` and `FB_SETBIT`: the lookup tables are read while `LUT_VALID = 0` (R197, R198). Safe. -/
  | lutNotValid
  /-- Raised by `SET_PIXEL`, `XLATE` and `FB_SETBIT`: a lookup table lacks the entry read, or its mask is not one-hot
  (R195, R197). Safe. -/
  | lutEntry
  /-- Raised by `LUT_BUILD` where `STRATEGY` is not `LUT`, so that the tables do not exist (R34, R196). Safe. -/
  | noLut
deriving DecidableEq, Repr

/-- Why an input is given no meaning. -/
inductive Refusal where
  /-- Raised by `exec` for an instruction with no meaning yet. Safe. -/
  | notModelled (mnemonic : String)
  /-- Raised by `step` for a configuration that breaks R5 or R102 (F1, F2), which the spec says a model refuses, and,
  DEDUCED from R185 (log entry 17), for another pixel map than `STD_MAP` that is no injection into `[0, NPIX)`. Safe. -/
  | illFormedConfig
deriving DecidableEq, Repr

/-- `IndexTable` after block reset (R48: unspecified; log entry 5): DESIGN CHOICE zeros; no table unless
`STRATEGY = LUT` (R34). -/
def resetLutIndex (c : Config) : List LutIndex :=
  if c.strategy = .lut then List.replicate c.height 0 else []

/-- `BitMaskTable` after block reset (R48: unspecified; log entry 5): DESIGN CHOICE zeros. -/
def resetLutMask (c : Config) : List Byte :=
  if c.strategy = .lut then List.replicate c.height 0 else []

/-- A host agent with no program. -/
def HostAgent.none : HostAgent where
  program := []
  pc := 0
  halted := false
  lastBusy := false
  reads := []

/-- The machine of a configuration right after its first block reset (R48, R300). `latch` is a DESIGN CHOICE (log
entry 3). -/
def State.resetOf (c : Config) : State where
  cfg := c
  latch := 0
  ctrl := .uninit
  busy := false
  lastErr := .none
  collide := false
  torn := false
  rstDone := false
  result := 0
  fb := []
  lutIndex := resetLutIndex c
  lutMask := resetLutMask c
  lutValid := false
  lineDc := .z
  lineCs := .z
  lineRst := .z
  phase := .idle
  idx := 0
  tcount := 0
  txnOpen := false
  trace := []
  uop := .none
  busAnswers := []
  draws := 0
  epoch := 0
  turns := []
  host := HostAgent.none

/-- The machine right after reset, for the spec's example configuration CFG-P (log entry 2). -/
def State.reset : State := State.resetOf Config.cfgP

end Sys2Proof.Machine
end

