-- ==== Sys2Proof/Machine/Operands.lean ====
section
/-! DEFINITION. Operands: the derived quantities of the configuration (R6), levels of the lines (R36), the operands
the sequencer takes from `LATCH` (R93), byte lanes of host accesses (R65). -/

namespace Sys2Proof.Machine

/-- `NPIX = W * H` (R6). -/
def npix (c : Config) : Nat := c.width * c.height

/-- `N = ceil(W * H / 8)` (R6): the framebuffer's length in bytes. -/
def fbLen (c : Config) : Nat := (npix c + 7) >>> 3

/-- `NPAD = 8 * N - NPIX` (R6). -/
def npad (c : Config) : Nat := 8 * fbLen c - npix c

/-- `LW` (R6). -/
def logicalWidth (c : Config) : Nat :=
  match c.orient with
  | .portrait => c.width
  | .landscape => c.height

/-- `LH` (R6). -/
def logicalHeight (c : Config) : Nat :=
  match c.orient with
  | .portrait => c.height
  | .landscape => c.width

/-- A driven level: true is 1 (R36). -/
def Level.ofBit : Bool → Level
  | true => .high
  | false => .low

/-- `LINE_DC` in the command state (R36). -/
def dcCommand (c : Config) : Level := Level.ofBit c.dcCmdLevel

/-- `LINE_DC` in the data state (R124). -/
def dcData (c : Config) : Level := Level.ofBit !c.dcCmdLevel

/-- `LINE_CS` selected (R36). -/
def csActive (c : Config) : Level := Level.ofBit c.csActiveLevel

/-- `LINE_CS` not selected (R125). -/
def csInactive (c : Config) : Level := Level.ofBit !c.csActiveLevel

/-- `LINE_RST` for an operand of `SET_RST_LEVEL`: true asserts reset (R132). -/
def rstLevel (c : Config) (a : Bool) : Level := Level.ofBit (if a then c.rstActiveLevel else !c.rstActiveLevel)

/-- The x operand `FB_SETBIT` takes from the latched command (R93, R163). -/
def State.latchX (s : State) : Coord := xField s.latch

/-- The y operand `FB_SETBIT` takes from the latched command (R93, R163). -/
def State.latchY (s : State) : Coord := yField s.latch

/-- The colour operand `FB_SETBIT` takes from the latched command (R93, R163). -/
def State.latchColour (s : State) : Bool := colourField s.latch

/-- A mask with exactly one bit set (R163): one of `0x80 >> a`, `a` from 0 to 7. -/
def oneHot (m : Byte) : Bool := (List.range 8).any fun a => m == 0x80#8 >>> a

/-- The byte lanes of a 32-bit value, the lowest offset first (R65). -/
def lanesOfWord (v : CmdWord) : List Byte :=
  [v.extractLsb' 0 8, v.extractLsb' 8 8, v.extractLsb' 16 8, v.extractLsb' 24 8]

/-- The read-back helper of R168 on a framebuffer byte: whether the mask's bit is 1. -/
def pixelOf (b mask : Byte) : Bool := b &&& mask != 0

end Sys2Proof.Machine
end

