-- ==== Sys2Proof/Machine/Flags.lean ====
section
/-! DEFINITION. The numbers behind the names (R22, R26, R41, R31) and the words of the host-visible registers (R25,
R30, R31, R245). The block has no condition codes (R47). -/

namespace Sys2Proof.Machine

/-- `CTRL`'s value (R22). -/
def Ctrl.code : Ctrl → BitVec 3
  | .uninit => 0
  | .initializing => 1
  | .ready => 2
  | .rendering => 3
  | .failed => 4

/-- `LAST_ERR`'s code (R26). -/
def ErrCode.code : ErrCode → BitVec 3
  | .none => 0
  | .transportTimeout => 1
  | .invalidState => 2
  | .illegalOp => 3
  | .outOfRange => 4

/-- `seq.phase`'s value (R41). -/
def Phase.code : Phase → BitVec 4
  | .idle => 0
  | .exec => 1
  | .initReset => 2
  | .initSeq => 3
  | .initBuild => 4
  | .dispStart => 5
  | .dispBufOpen => 6
  | .dispBuf => 7
  | .dispBufClose => 8
  | .dispCommit => 9

/-- `CONFIG.ORIENT` (R31). -/
def orientBit : Orient → Bool
  | .portrait => false
  | .landscape => true

/-- `CONFIG.STRATEGY` (R31). -/
def strategyCode : Strategy → BitVec 2
  | .direct => 0
  | .shift => 1
  | .lut => 2

/-- `CONFIG.OOR_POLICY` (R31). -/
def oorBit : OorPolicy → Bool
  | .drop => false
  | .report => true

/-- One bit of a register word. -/
def bitAt (b : Bool) (k : Nat) : CmdWord := (BitVec.ofBool b).setWidth 32 <<< k

/-- `RD STATUS` (R25, R245): bits 31:10 read as 0. -/
def State.statusWord (s : State) : CmdWord :=
  bitAt s.rstDone 9 ||| bitAt s.torn 8 ||| bitAt s.collide 7 ||| (s.lastErr.code.setWidth 32 <<< 4)
    ||| (s.ctrl.code.setWidth 32 <<< 1) ||| bitAt s.busy 0

/-- `RD CONFIG` (R31, R245). -/
def configWord (c : Config) : CmdWord :=
  bitAt (oorBit c.oorPolicy) 27 ||| ((strategyCode c.strategy).setWidth 32 <<< 25) ||| bitAt (orientBit c.orient) 24
    ||| (BitVec.ofNat 32 (c.height - 1) <<< 12) ||| BitVec.ofNat 32 (c.width - 1)

/-- `RESULT` for a translated coordinate: `(1 << 31) | (idx << 8) | mask` (R30, R241). -/
def resultWord (idx : Nat) (mask : Byte) : CmdWord :=
  bitAt true 31 ||| (BitVec.ofNat 32 idx <<< 8) ||| mask.setWidth 32

/-- The code an out-of-bounds coordinate ends with (R181, R231, R241). -/
def oorCode (c : Config) : ErrCode :=
  match c.oorPolicy with
  | .drop => .none
  | .report => .outOfRange

end Sys2Proof.Machine
end

