-- ==== Sys2Proof/Machine/Ops.lean ====
section
/-! DEFINITION. The named operations: memory, trace and lines, the sequencer's pointer, bus waits and transactions, the
one point where a command's outcome is recorded (`State.finish`, R272), block reset. The block has no trap (R271), so
`State.finish` stands where another machine takes an exception. -/

namespace Sys2Proof.Machine

/-! ### Memory -/

/-- The byte listed at an address. -/
def Memory.read : Memory → Nat → Option Byte
  | [], _ => none
  | (b, v) :: m, a => if a = b then some v else Memory.read m a

/-- Write one byte, keeping the addresses strictly rising. -/
def Memory.write : Memory → Nat → Byte → Memory
  | [], a, v => [(a, v)]
  | (b, w) :: m, a, v =>
    if a < b then (a, v) :: (b, w) :: m
    else if a = b then (a, v) :: m
    else (b, w) :: Memory.write m a v

/-- Write `v` at every address below `n`. -/
def Memory.fill (m : Memory) (n : Nat) (v : Byte) : Memory :=
  (List.range n).map (fun a => (a, v)) ++ m.filter fun c => decide (n ≤ c.1)

/-- The canonical form: addresses strictly rising. (An unlisted address has no value, so no entry can equal it.) -/
def Memory.wf : Memory → Bool
  | [] => true
  | [_] => true
  | (a, _) :: (b, w) :: m => decide (a < b) && Memory.wf ((b, w) :: m)

/-- `fb[i]`: the byte written last, or what block reset left there, which the spec does not say (R48, R169). -/
def State.fbByte (s : State) (i : Nat) : Byte :=
  match s.fb.read i with
  | some b => b
  | none => Config.fbPowerOn s.epoch i

/-- `fb[i] <- v` (R10). -/
def State.writeFb (s : State) (i : Nat) (v : Byte) : State := { s with fb := s.fb.write i v }

/-! ### Trace and lines -/

/-- `Emit(e)` (R10, R45). -/
def State.emit (s : State) (e : Event) : State := { s with trace := s.trace ++ [e] }

/-- `Line(role) <- level` (R122): the event and the line's state, whatever pin the role has. -/
def State.driveLine (s : State) (role : Role) (l : Level) : State :=
  match role with
  | .dc => { s with lineDc := l, trace := s.trace ++ [.line .dc l] }
  | .cs => { s with lineCs := l, trace := s.trace ++ [.line .cs l] }
  | .rst => { s with lineRst := l, trace := s.trace ++ [.line .rst l] }

/-! ### The sequencer's pointer, and the end of a command -/

/-- `seq.pc <- (p, i)` (R42). -/
def State.goto (s : State) (p : Phase) (i : SeqIdx) : State := { s with phase := p, idx := i }

/-- `finish(code)` (R42, R272): record the outcome, return to `IDLE`, clear `BUSY`. DESIGN CHOICE (log entry 3):
`latch`, which R21 and U4 leave unspecified while `BUSY = 0`, keeps the last command word. -/
def State.finish (s : State) (c : ErrCode) : State :=
  { s with lastErr := c, phase := .idle, idx := 0, busy := false }

/-- `init_fail()` (R226). -/
def State.initFail (s : State) : State := { s with ctrl := .failed }.finish .transportTimeout

/-- `display_done()` (R238). -/
def State.displayDone (s : State) : State := { s with ctrl := .ready, torn := false }.finish .none

/-- `display_abort()` (R239). -/
def State.displayAbort (s : State) : State := { s with ctrl := .ready, torn := true }.finish .transportTimeout

/-- The end of the `INIT_BUILD` step, after the tables are built (R227). -/
def State.buildDone (s : State) : State := { s with ctrl := .ready }.finish .none

/-! ### Waits and transactions -/

/-- The answer the next wait gets (R8): the bus's next one, or a free value. -/
def State.nextAnswer (s : State) : Wait :=
  match s.busAnswers with
  | a :: _ => a
  | [] => Config.busAnswer s.draws

/-- What `TCOUNT` holds when a wait ends (R43): the budget on `TIMEOUT`, on `READY` a tick no later than it. -/
def State.waitTicks (s : State) (budget : Nat) : Nat :=
  match s.nextAnswer with
  | .timeout => budget
  | .ready => min budget (Config.readyTick s.draws)

/-- The state after a bounded wait (R121). -/
def State.waited (s : State) (budget : Nat) : State :=
  { s with tcount := s.waitTicks budget, busAnswers := s.busAnswers.tail, draws := s.draws + 1 }

/-- Open a transaction (R123, R124, R126): the data/command line, then chip-select. -/
def State.openTxn (s : State) (dc : Level) : State :=
  { (s.driveLine .dc dc).driveLine .cs (csActive s.cfg) with txnOpen := true }

/-- Release chip-select (R123, R125, R128). -/
def State.closeTxn (s : State) : State := { s.driveLine .cs (csInactive s.cfg) with txnOpen := false }

/-- `abort_txn()` (R125). -/
def State.abortTxn (s : State) : State := (s.emit .abort).closeTxn

/-- A single-byte transaction with the data/command line at `dc` (R123, R124), and its outcome. -/
def State.sendByte (s : State) (dc : Level) (b : Byte) : Wait × State :=
  let s₁ := s.openTxn dc
  match s₁.nextAnswer with
  | .timeout => (.timeout, (s₁.waited s.cfg.tAccept).abortTxn)
  | .ready =>
    let s₂ := (s₁.waited s.cfg.tAccept).emit (.byte b)
    match s₂.nextAnswer with
    | .timeout => (.timeout, (s₂.waited s.cfg.tComplete).abortTxn)
    | .ready => (.ready, ((s₂.waited s.cfg.tComplete).emit .done).closeTxn)

/-! ### Block reset -/

/-- Block reset (R48, R300, R301) at any time: every piece of the block's state at its reset value, the trace emptied
with no event. The configuration stays, and so do the host and the bus, which are other agents. The framebuffer's
contents are unspecified anew. -/
def State.blockReset (s : State) : State :=
  { State.resetOf s.cfg with
    busAnswers := s.busAnswers, draws := s.draws, epoch := s.epoch + 1, turns := s.turns, host := s.host }

end Sys2Proof.Machine
end

