-- ==== Sys2Proof/Machine/Translate.lean ====
section
/-! DEFINITION. The address translator (42_address_transform.md): the pixel map, the three strategies, the lookup
tables. All arithmetic is exact on natural numbers, as R203 says no operation wraps. -/

namespace Sys2Proof.Machine

/-- A translated coordinate: byte index and one-hot mask (R180). -/
structure PixelAddr where
  idx : Nat
  mask : Byte
deriving DecidableEq, Repr

/-- `in_bounds(x, y)` (R181). -/
def inBounds (c : Config) (x y : Nat) : Bool := decide (x < logicalWidth c) && decide (y < logicalHeight c)

/-- The physical row of a logical coordinate under `STD_MAP` (R184, R189). -/
def physRow (c : Config) (x y : Nat) : Nat :=
  match c.orient with
  | .portrait => y
  | .landscape => c.height - 1 - x

/-- The physical column of a logical coordinate under `STD_MAP` (R184, R189). -/
def physCol (c : Config) (x y : Nat) : Nat :=
  match c.orient with
  | .portrait => x
  | .landscape => y

/-- The native bit index of a logical coordinate (R182, R184), or another map's value (R185). -/
def nidx (c : Config) (x y : Nat) : Nat :=
  match c.pixelMap with
  | .std => physRow c x y * c.width + physCol c x y
  | .other t => t.getD (y * logicalWidth c + x) 0

/-- `mask(n) = 0x80 >> (n & 7)` (R183). -/
def maskOf (n : Nat) : Byte := 0x80#8 >>> (n % 8)

/-- Byte and bit of a native index (R183). -/
def addrOf (n : Nat) : PixelAddr := ⟨n / 8, maskOf n⟩

/-- `DIRECT` (R187; under another map R185): `none` is `INVALID`. -/
def translateDirect (c : Config) (x y : Nat) : Option PixelAddr :=
  if inBounds c x y then some (addrOf (nidx c x y)) else none

/-- `mulW(v)` (R189): the sum of `v << k` over the set bits `k` of `W`. -/
def mulW (w v : Nat) : Nat := ((List.range 13).map fun k => if w.testBit k then v <<< k else 0).sum

/-- `SHIFT` (R189), for `STD_MAP`. -/
def translateShift (c : Config) (x y : Nat) : Option PixelAddr :=
  if inBounds c x y then
    let n := mulW c.width (physRow c x y) + physCol c x y
    some ⟨n >>> 3, 0x80#8 >>> (n &&& 7)⟩
  else none

/-- The key coordinate of the lookup tables (R195). -/
def lutKey (c : Config) (x y : Nat) : Nat :=
  match c.orient with
  | .portrait => y
  | .landscape => x

/-- The physical row that key `k` selects (R195). -/
def lutRow (c : Config) (k : Nat) : Nat :=
  match c.orient with
  | .portrait => k
  | .landscape => c.height - 1 - k

/-- `IndexTable[k]` as `LUT_BUILD` writes it (R195, R196); a free value under another map (log entry 12). -/
def builtIndex (c : Config) (k : Nat) : LutIndex :=
  match c.pixelMap with
  | .std => BitVec.ofNat 21 ((lutRow c k * c.width) >>> 3)
  | .other t => Config.otherLutIndex t k

/-- `BitMaskTable[k]` as `LUT_BUILD` writes it (R195, R196); a free value under another map (log entry 12). -/
def builtMask (c : Config) (k : Nat) : Byte :=
  match c.pixelMap with
  | .std => 0x80#8 >>> ((lutRow c k * c.width) &&& 7)
  | .other t => Config.otherLutMask t k

/-- `IndexTable` as built, `H` entries (R195). -/
def builtIndexTable (c : Config) : List LutIndex := (List.range c.height).map (builtIndex c)

/-- `BitMaskTable` as built, `H` entries (R195). -/
def builtMaskTable (c : Config) : List Byte := (List.range c.height).map (builtMask c)

/-- `pos(m)` (R197): the `a` from 0 to 7 with `m = 0x80 >> a`. -/
def maskPos (m : Byte) : Option Nat := (List.range 8).find? fun a => m == 0x80#8 >>> a

/-- The address from a row's table entries and the column (R197), given the row's bit alignment. -/
def lutAddr (index : LutIndex) (a col : Nat) : PixelAddr :=
  ⟨index.toNat + ((a + col) >>> 3), 0x80#8 >>> ((a + col) &&& 7)⟩

/-- `LUT` lookup (R197), for `STD_MAP`. No table is read for a coordinate out of bounds. -/
def translateLut (s : State) (x y : Nat) : Except Fault (Option PixelAddr) :=
  if inBounds s.cfg x y then
    if s.lutValid then
      match s.lutIndex[lutKey s.cfg x y]?, (s.lutMask[lutKey s.cfg x y]?).bind maskPos with
      | some index, some a => .ok (some (lutAddr index a (physCol s.cfg x y)))
      | _, _ => .error .lutEntry
    else .error .lutNotValid
  else .ok none

/-- `translate(x, y)` by the configured strategy (R180, R186). Under another map than `STD_MAP` the SHIFT and LUT
forms are not given, only that they equal DIRECT (R185, R200). -/
def State.translate (s : State) (x y : Nat) : Except Fault (Option PixelAddr) :=
  match s.cfg.pixelMap, s.cfg.strategy with
  | .other _, _ => .ok (translateDirect s.cfg x y)
  | .std, .direct => .ok (translateDirect s.cfg x y)
  | .std, .shift => .ok (translateShift s.cfg x y)
  | .std, .lut => translateLut s x y

/-- The tables built, `LUT_VALID <- 1` (R196). -/
def State.buildLut (s : State) : State :=
  { s with lutIndex := builtIndexTable s.cfg, lutMask := builtMaskTable s.cfg, lutValid := true }

/-- `LUT_BUILD` (R196); the tables exist only when `STRATEGY = LUT` (R34). -/
def execLutBuild (s : State) : Host.Outcome State Fault Refusal :=
  if s.cfg.strategy = .lut then .next s.buildLut else .fault .noLut

end Sys2Proof.Machine
end

