-- ==== Sys2Proof/Machine/Framebuffer.lean ====
section
/-! DEFINITION. The framebuffer operations (41_framebuffer.md). -/

namespace Sys2Proof.Machine

/-- The byte a colour fills with (R160, R161). -/
def fillByte (c : Bool) : Byte := if c then 0xFF#8 else 0x00#8

/-- `FB_FILL` (R160): every byte, padding bits too (R162). -/
def State.fillFb (s : State) (c : Bool) : State := { s with fb := s.fb.fill (fbLen s.cfg) (fillByte c) }

/-- A byte with the mask's bit set or cleared (R163). -/
def setMasked (old mask : Byte) (on : Bool) : Byte := if on then old ||| mask else old &&& ~~~mask

/-- `FB_SETBIT idx, mask, on` (R163), with the bounds check of R164: the operands outside it write nothing. -/
def State.setBit (s : State) (a : PixelAddr) (on : Bool) : Except Fault State :=
  if a.idx < fbLen s.cfg ∧ oneHot a.mask = true then
    .ok (s.writeFb a.idx (setMasked (s.fbByte a.idx) a.mask on))
  else if s.cfg.debugBounds then .error .debugBounds
  else .error .setBitUnchecked

/-- `FB_FILL` issued alone (R160). -/
def execFbFill (c : Bool) (s : State) : Host.Outcome State Fault Refusal := .next (s.fillFb c)

/-- `FB_SETBIT` issued alone (R163): the address from the translator, coordinate and colour from `LATCH`. -/
def execFbSetbit (s : State) : Host.Outcome State Fault Refusal :=
  match s.translate s.latchX.toNat s.latchY.toNat with
  | .error f => .fault f
  | .ok none => .fault .setBitNoAddress
  | .ok (some a) =>
    match s.setBit a s.latchColour with
    | .error f => .fault f
    | .ok t => .next t

end Sys2Proof.Machine
end

