-- ==== Sys2Proof/Machine/Controller.lean ====
section
/-! DEFINITION. The controller operations (43_controller_ops.md): a host write of `CMD`, and the `EXEC` step of each
command. -/

namespace Sys2Proof.Machine

/-- A write of `CMD` while a command runs (R27, R220). -/
def State.collision (s : State) : State := { s with collide := true }

/-- A host write of `CMD` with a word that is no `NOP` (R220). -/
def State.acceptCmd (s : State) (w : CmdWord) : State :=
  if s.busy then s.collision else { s with latch := w, busy := true, phase := .exec, idx := 0 }

/-- `NOP` (R222), at the host's write: nothing, or a collision while a command runs. -/
def execNop (s : State) : Host.Outcome State Fault Refusal := .next (if s.busy then s.collision else s)

/-- The first drive of the lines, to their inactive levels (R224). -/
def State.driveInactive (s : State) : State :=
  ((s.driveLine .cs (csInactive s.cfg)).driveLine .dc (dcCommand s.cfg)).driveLine .rst (rstLevel s.cfg false)

/-- `INIT` (R224). -/
def execInit (s : State) : Host.Outcome State Fault Refusal :=
  if s.ctrl = .uninit then .next ({ s with ctrl := .initializing }.driveInactive.goto .initReset 0)
  else .next (s.finish .invalidState)

/-- `CLEAR c` (R229). -/
def execClear (c : Bool) (s : State) : Host.Outcome State Fault Refusal :=
  if s.ctrl = .ready then .next ((s.fillFb c).finish .none) else .next (s.finish .invalidState)

/-- `SET_PIXEL x, y, c` (R231). -/
def execSetPixel (x y : Coord) (c : Bool) (s : State) : Host.Outcome State Fault Refusal :=
  if s.ctrl = .ready then
    match s.translate x.toNat y.toNat with
    | .error f => .fault f
    | .ok none => .next (s.finish (oorCode s.cfg))
    | .ok (some a) =>
      match s.setBit a c with
      | .error f => .fault f
      | .ok t => .next (t.finish .none)
  else .next (s.finish .invalidState)

/-- `DISPLAY` (R236). -/
def execDisplay (s : State) : Host.Outcome State Fault Refusal :=
  if s.ctrl = .ready then .next ({ s with ctrl := .rendering }.goto .dispStart 0)
  else .next (s.finish .invalidState)

/-- `XLATE x, y` (R241). -/
def execXlate (x y : Coord) (s : State) : Host.Outcome State Fault Refusal :=
  if s.ctrl = .ready then
    match s.translate x.toNat y.toNat with
    | .error f => .fault f
    | .ok none => .next ({ s with result := 0 }.finish (oorCode s.cfg))
    | .ok (some a) => .next ({ s with result := resultWord a.idx a.mask }.finish .none)
  else .next (s.finish .invalidState)

/-- An illegal operation (R96, R243), in every state of the controller. -/
def State.illegal (s : State) : Host.Outcome State Fault Refusal := .next (s.finish .illegalOp)

/-- `OP = 0x6` (R243). -/
def execIllegal6 (s : State) : Host.Outcome State Fault Refusal := s.illegal

/-- `OP = 0x7` (R243). -/
def execIllegal7 (s : State) : Host.Outcome State Fault Refusal := s.illegal

/-- `OP = 0x8` (R243). -/
def execIllegal8 (s : State) : Host.Outcome State Fault Refusal := s.illegal

/-- `OP = 0x9` (R243). -/
def execIllegal9 (s : State) : Host.Outcome State Fault Refusal := s.illegal

/-- `OP = 0xA` (R243). -/
def execIllegalA (s : State) : Host.Outcome State Fault Refusal := s.illegal

/-- `OP = 0xB` (R243). -/
def execIllegalB (s : State) : Host.Outcome State Fault Refusal := s.illegal

/-- `OP = 0xC` (R243). -/
def execIllegalC (s : State) : Host.Outcome State Fault Refusal := s.illegal

/-- `OP = 0xD` (R243). -/
def execIllegalD (s : State) : Host.Outcome State Fault Refusal := s.illegal

/-- `OP = 0xE` (R243). -/
def execIllegalE (s : State) : Host.Outcome State Fault Refusal := s.illegal

/-- `OP = 0xF` (R243). -/
def execIllegalF (s : State) : Host.Outcome State Fault Refusal := s.illegal

end Sys2Proof.Machine
end

