-- ==== Sys2Proof/Machine/Transport.lean ====
section
/-! DEFINITION. The transport and timing sequencer operations (40_transport.md). -/

namespace Sys2Proof.Machine

/-- The phases that run a protocol table (R140). -/
def Phase.runsTable : Phase → Bool
  | .initSeq => true
  | .dispStart => true
  | .dispCommit => true
  | .idle => false
  | .exec => false
  | .initReset => false
  | .initBuild => false
  | .dispBufOpen => false
  | .dispBuf => false
  | .dispBufClose => false

/-- What the table step does with a transaction's outcome (R140). -/
def State.afterEntry (r : Wait × State) : State :=
  match r.1 with
  | .ready => { r.2 with idx := r.2.idx + 1 }
  | .timeout => if r.2.phase = .initSeq then r.2.initFail else r.2.displayAbort

/-- A table entry that sends a byte (R123, R124, R140). -/
def State.sendEntry (s : State) (dc : Level) (b : Byte) : Host.Outcome State Fault Refusal :=
  if s.phase.runsTable then
    if s.rstDone then .next (State.afterEntry (s.sendByte dc b)) else .fault .resetOrder
  else .fault .phaseMismatch

/-- `CMD b`: `SEND_COMMAND` (R123) as a table step (R140). -/
def execCmd (b : Byte) (s : State) : Host.Outcome State Fault Refusal := s.sendEntry (dcCommand s.cfg) b

/-- `DATA b`: `SEND_DATA` (R124) as a table step (R140). -/
def execData (b : Byte) (s : State) : Host.Outcome State Fault Refusal := s.sendEntry (dcData s.cfg) b

/-- `END`: `next_phase()` (R141). -/
def execEndSeq (s : State) : Host.Outcome State Fault Refusal :=
  match s.phase with
  | .initSeq => .next (s.goto .initBuild 0)
  | .dispStart => .next (s.goto .dispBufOpen 0)
  | .dispCommit => .next s.displayDone
  | .idle => .fault .phaseMismatch
  | .exec => .fault .phaseMismatch
  | .initReset => .fault .phaseMismatch
  | .initBuild => .fault .phaseMismatch
  | .dispBufOpen => .fault .phaseMismatch
  | .dispBuf => .fault .phaseMismatch
  | .dispBufClose => .fault .phaseMismatch

/-- `SET_RST_LEVEL A` (R132). -/
def State.setRst (s : State) (a : Bool) : State := s.driveLine .rst (rstLevel s.cfg a)

/-- `SET_RST_LEVEL A` issued alone (R132). -/
def execSetRstLevel (a : Bool) (s : State) : Host.Outcome State Fault Refusal := .next (s.setRst a)

/-- The panel reset pulse (R130): assert, hold, deassert, recover; then the initialisation table. -/
def State.pulseReset (s : State) : State :=
  let s₁ := (s.setRst true).emit (.delay s.cfg.tRstHold)
  let s₂ := (s₁.setRst false).emit (.delay s.cfg.tRstRecover)
  { s₂ with rstDone := true }.goto .initSeq 0

/-- `RESET_PULSE` (R130), asserting that it has not run since block reset (R131). -/
def execResetPulse (s : State) : Host.Outcome State Fault Refusal :=
  if s.rstDone then .fault .resetOrder else .next s.pulseReset

/-- `SEND_BUFFER` open (R126). -/
def State.openBuffer (s : State) : State := (s.openTxn (dcData s.cfg)).goto .dispBuf 0

/-- Where the pointer goes after the byte at `seq.idx` is accepted (R127). -/
def State.nextByte (s : State) : State :=
  if s.idx.toNat + 1 < fbLen s.cfg then { s with idx := s.idx + 1 } else s.goto .dispBufClose 0

/-- `SEND_BUFFER` byte (R127): the byte is read now (R166). -/
def State.streamByte (s : State) : State :=
  match s.nextAnswer with
  | .timeout => (s.waited s.cfg.tAccept).abortTxn.displayAbort
  | .ready => ((s.waited s.cfg.tAccept).emit (.byte (s.fbByte s.idx.toNat))).nextByte

/-- `SEND_BUFFER` close (R128). -/
def State.closeBuffer (s : State) : State :=
  match s.nextAnswer with
  | .timeout => (s.waited s.cfg.tComplete).abortTxn.displayAbort
  | .ready => (((s.waited s.cfg.tComplete).emit .done).closeTxn).goto .dispCommit 0

/-- `SEND_BUFFER`: the part that the phase says (R126, R127, R128). -/
def execSendBuffer (s : State) : Host.Outcome State Fault Refusal :=
  match s.phase with
  | .dispBufOpen => .next s.openBuffer
  | .dispBuf => if s.idx.toNat < fbLen s.cfg then .next s.streamByte else .fault .streamIndex
  | .dispBufClose => .next s.closeBuffer
  | .idle => .fault .phaseMismatch
  | .exec => .fault .phaseMismatch
  | .initReset => .fault .phaseMismatch
  | .initSeq => .fault .phaseMismatch
  | .initBuild => .fault .phaseMismatch
  | .dispStart => .fault .phaseMismatch
  | .dispCommit => .fault .phaseMismatch

end Sys2Proof.Machine
end

