-- ==== Sys2Proof/Machine/Dispatch.lean ====
section
/-! DEFINITION. `exec`: one arm per instruction, each a call of its meaning. -/

namespace Sys2Proof.Machine

/-- What one instruction does. -/
def exec (i : Instr) (s : State) : Host.Outcome State Fault Refusal :=
  match i with
  | .nop => Sys2Proof.Machine.execNop s
  | .init => Sys2Proof.Machine.execInit s
  | .clear c => Sys2Proof.Machine.execClear c s
  | .setPixel x y c => Sys2Proof.Machine.execSetPixel x y c s
  | .display => Sys2Proof.Machine.execDisplay s
  | .xlate x y => Sys2Proof.Machine.execXlate x y s
  | .illegal6 => Sys2Proof.Machine.execIllegal6 s
  | .illegal7 => Sys2Proof.Machine.execIllegal7 s
  | .illegal8 => Sys2Proof.Machine.execIllegal8 s
  | .illegal9 => Sys2Proof.Machine.execIllegal9 s
  | .illegalA => Sys2Proof.Machine.execIllegalA s
  | .illegalB => Sys2Proof.Machine.execIllegalB s
  | .illegalC => Sys2Proof.Machine.execIllegalC s
  | .illegalD => Sys2Proof.Machine.execIllegalD s
  | .illegalE => Sys2Proof.Machine.execIllegalE s
  | .illegalF => Sys2Proof.Machine.execIllegalF s
  | .endSeq => Sys2Proof.Machine.execEndSeq s
  | .cmd b => Sys2Proof.Machine.execCmd b s
  | .data b => Sys2Proof.Machine.execData b s
  | .resetPulse => Sys2Proof.Machine.execResetPulse s
  | .setRstLevel a => Sys2Proof.Machine.execSetRstLevel a s
  | .sendBuffer => Sys2Proof.Machine.execSendBuffer s
  | .lutBuild => Sys2Proof.Machine.execLutBuild s
  | .fbFill c => Sys2Proof.Machine.execFbFill c s
  | .fbSetbit => Sys2Proof.Machine.execFbSetbit s

end Sys2Proof.Machine
end

