-- ==== Sys2Proof/Machine/HostAccess.lean ====
section
/-! DEFINITION. The host's accesses (20_memory.md R61-R69, 41 R167, 43 R220, R245, R246) and its program's own control
flow (30 R106). No access has a fault: what an access of another width or place does is R62 and R64. -/

namespace Sys2Proof.Machine

/-- The first offset of the framebuffer window (R61). -/
def windowBase : Nat := 0x200000

/-- A 32-bit access at a multiple of 4 (R63). -/
def wordAccess (off n : Nat) : Bool := n == 4 && off % 4 == 0

/-- What a 32-bit read below the window gives (R61, R62, R245): `CMD` and every reserved offset read as 0. -/
def State.registerWord (s : State) (off : Nat) : CmdWord :=
  if off = 0x4 then s.statusWord
  else if off = 0x8 then s.result
  else if off = 0xC then configWord s.cfg
  else 0

/-- One byte of the window (R69, R167): beyond `N` 0; outside `READY` or while busy a free value. -/
def State.readWindowByte (s : State) (i : Nat) : Byte × State :=
  if fbLen s.cfg ≤ i then (0, s)
  else if s.ctrl = .ready ∧ s.busy = false then (s.fbByte i, s)
  else (Config.windowByte s.draws, { s with draws := s.draws + 1 })

/-- `n` bytes of the window from byte `i` on, the lowest first (R65). -/
def State.readWindow (s : State) (i : Nat) : Nat → List Byte × State
  | 0 => ([], s)
  | n + 1 =>
    let r := s.readWindowByte i
    let rest := r.2.readWindow (i + 1) n
    (r.1 :: rest.1, rest.2)

/-- A host read of `n` bytes at an offset (R61-R65): the byte lanes it returns, and the state (which differs only in
the count of free values drawn, R68). -/
def State.hostRead (s : State) (off n : Nat) : List Byte × State :=
  if off < windowBase then
    if wordAccess off n then (lanesOfWord (s.registerWord off), s) else (List.replicate n 0, s)
  else if n = 1 ∨ wordAccess off n = true then s.readWindow (off - windowBase) n
  else (List.replicate n 0, s)

/-- A host write of `STATUS` (R246): bit 7 clears `COLLIDE`. -/
def State.writeStatus (s : State) (v : CmdWord) : State :=
  if v.getLsbD 7 then { s with collide := false } else s

/-- The program goes on to its next operation. -/
def State.hostAdvance (s : State) : State := { s with host := { s.host with pc := s.host.pc + 1 } }

/-- The value of a read goes to the host program (R331), and bit 0 of a 32-bit read of `STATUS` to `BRBUSY` (R106). -/
def State.recordRead (s : State) (off : HostOffset) (lanes : List Byte) : State :=
  { s with host :=
    { s.host with
      reads := s.host.reads ++ [⟨off, lanes⟩]
      lastBusy := if off = 0x4 ∧ lanes.length = 4 then (lanes.headD 0).getLsbD 0 else s.host.lastBusy } }

/-- The operation the host program is at: none after `HALT` or past its end. -/
def State.hostOp (s : State) : Option HostOp := if s.host.halted then none else s.host.program[s.host.pc]?

/-- What an agent's turn comes to: an instruction to run (and whether it is the `LUT_BUILD` of the `INIT_BUILD` step,
which goes on to `READY`, R227), a step that runs none, or a stop. -/
inductive Issue where
  | run (i : Instr) (inBuild : Bool) (s : State)
  | done (s : State)
  | stop (f : Fault)
deriving DecidableEq, Repr

/-- A host write of `n` bytes at an offset (R61-R64, R220, R246). A `NOP` written to `CMD` runs at once (R222); any
other command waits in `LATCH` for the sequencer. -/
def State.hostWrite (s : State) (off n : Nat) (v : CmdWord) : Issue :=
  if wordAccess off n then
    if off = 0x0 then
      if opField v = 0#4 then .run (decodeHost v) false s else .done (s.acceptCmd v)
    else if off = 0x4 then .done (s.writeStatus v)
    else .done s
  else .done s

/-- The host's turn (R7, R106, R247). -/
def State.hostIssue (s : State) : Issue :=
  match s.hostOp with
  | none => .stop .hostStuck
  | some (.read off n) =>
    let r := s.hostAdvance.hostRead off.toNat n
    .done (r.2.recordRead off r.1)
  | some (.write off n v) => s.hostAdvance.hostWrite off.toNat n v
  | some (.brBusy target) =>
    .done (if s.host.lastBusy then { s with host := { s.host with pc := target } } else s.hostAdvance)
  | some .halt => .done { s with host := { s.host with halted := true } }

/-! ### The assembler of R106: what each line of a host program stands for -/

/-- A line of a host program (R106), labels resolved to positions in the assembled program. -/
inductive AsmLine where
  | nop
  | init
  | clear (c : Bool)
  | setpix (x y : Coord) (c : Bool)
  | display
  | xlate (x y : Coord)
  | wr (off : HostOffset) (v : CmdWord)
  | rd (off : HostOffset)
  /-- `RDB FB[i]`. -/
  | rdb (i : Nat)
  /-- `RDW FB[i]`, `i` a multiple of 4. -/
  | rdw (i : Nat)
  | brbusy (target : Nat)
  | halt
  | wait
  | plot (x y : Coord)
  | erase (x y : Coord)
  | ack
deriving DecidableEq, Repr

/-- `WR CMD, word(OP, C, Y, X)` (R94, R106). -/
def writeCommand (op : BitVec 4) (c : Bool) (y x : Coord) : HostOp := .write 0x0#22 4 (hostWord op c y x)

/-- The offset of `FBWIN[i]` (R61). -/
def windowOffset (i : Nat) : HostOffset := BitVec.ofNat 22 (windowBase + i)

/-- What a line standing at position `at_` of the assembled program expands to (R106). -/
def AsmLine.expand (l : AsmLine) (at_ : Nat) : List HostOp :=
  match l with
  | .nop => [writeCommand 0x0#4 false 0 0]
  | .init => [writeCommand 0x1#4 false 0 0]
  | .clear c => [writeCommand 0x2#4 c 0 0]
  | .setpix x y c => [writeCommand 0x3#4 c y x]
  | .display => [writeCommand 0x4#4 false 0 0]
  | .xlate x y => [writeCommand 0x5#4 false y x]
  | .wr off v => [.write off 4 v]
  | .rd off => [.read off 4]
  | .rdb i => [.read (windowOffset i) 1]
  | .rdw i => [.read (windowOffset i) 4]
  | .brbusy target => [.brBusy target]
  | .halt => [.halt]
  | .wait => [.read 0x4#22 4, .brBusy at_]
  | .plot x y => [writeCommand 0x3#4 true y x]
  | .erase x y => [writeCommand 0x3#4 false y x]
  | .ack => [.write 0x4#22 4 0x80#32]

/-- A host program from its lines (R106), placed from position `at_` on. -/
def assemble : List AsmLine → Nat → List HostOp
  | [], _ => []
  | l :: ls, at_ => l.expand at_ ++ assemble ls (at_ + (l.expand at_).length)

end Sys2Proof.Machine
end

