-- ==== Sys2Proof/Machine/Fetch.lean ====
section
/-! DEFINITION. Who moves next (R247), and the word the sequencer runs in each phase (R41, R221). -/

namespace Sys2Proof.Machine

/-- The sequencer has a step: its phase is not `IDLE` (R41), or a micro-operation is issued alone (log entry 11). -/
def State.sequencerReady (s : State) : Bool := s.uop.isSome || s.phase != .idle

/-- The turn taken now: the next one listed; with none listed the sequencer's while it has a step, else the host's
(log entry 9). -/
def State.turn (s : State) : Turn :=
  match s.turns with
  | t :: _ => t
  | [] => if s.sequencerReady then .sequencer else .host

/-- The state in which the turn's agent moves: the turn is taken off the list. -/
def State.turnTaken (s : State) : State := { s with turns := s.turns.tail }

/-- The table of a phase that runs one (R140). -/
def State.phaseTable (s : State) : List Entry :=
  match s.phase with
  | .initSeq => s.cfg.initSeq
  | .dispStart => s.cfg.frameStartSeq
  | .dispCommit => s.cfg.frameCommitSeq
  | .idle => []
  | .exec => []
  | .initReset => []
  | .initBuild => []
  | .dispBufOpen => []
  | .dispBuf => []
  | .dispBufClose => []

/-- The table entry at `seq.idx` (R140). -/
def State.tableCode (s : State) : Except Fault (Option Code) :=
  match s.phaseTable[s.idx.toNat]? with
  | some e => .ok (some (.table e))
  | none => .error .tableIndex

/-- The word the sequencer runs next (R41, R104, R221): the latched command in `EXEC`, the table's entry in a table
phase, the micro-operation's own code otherwise. No word in `INIT_BUILD` without tables to build (R227). -/
def State.fetch (s : State) : Except Fault (Option Code) :=
  match s.uop with
  | some e => .ok (some (.micro e))
  | none =>
    match s.phase with
    | .idle => .error .sequencerStuck
    | .exec => if opField s.latch = 0#4 then .error .nopLatched else .ok (some (.host s.latch))
    | .initReset => .ok (some (.micro 0x8000#16))
    | .initSeq => s.tableCode
    | .initBuild => .ok (if s.cfg.strategy = .lut then some (.micro 0xB000#16) else none)
    | .dispStart => s.tableCode
    | .dispBufOpen => .ok (some (.micro 0xA000#16))
    | .dispBuf => .ok (some (.micro 0xA000#16))
    | .dispBufClose => .ok (some (.micro 0xA000#16))
    | .dispCommit => s.tableCode

/-- The word fetched is the `LUT_BUILD` of the `INIT_BUILD` step (R227). -/
def State.inBuild (s : State) : Bool := s.uop.isNone && s.phase == .initBuild

/-- The sequencer's turn (R8, R41). A micro-operation issued alone leaves its slot. -/
def State.sequencerIssue (s : State) : Issue :=
  match s.fetch with
  | .error f => .stop f
  | .ok none => .done s.buildDone
  | .ok (some c) =>
    match decode c with
    | .error _ => .stop .undecodable
    | .ok i => .run i s.inBuild { s with uop := none }

/-- What the step does (R247, R301). -/
def State.issue (s : State) : Issue :=
  match s.turn with
  | .host => s.turnTaken.hostIssue
  | .sequencer => s.turnTaken.sequencerIssue
  | .blockReset => .done s.turnTaken.blockReset

/-- What the `INIT_BUILD` step does after `LUT_BUILD` (R227); nothing after any other instruction. -/
def afterRun (inBuild : Bool) (o : Host.Outcome State Fault Refusal) : Host.Outcome State Fault Refusal :=
  match o with
  | .next t => .next (if inBuild then t.buildDone else t)
  | .fault f => .fault f
  | .refused r => .refused r

/-! ### Placing one instruction (log entry 14) -/

/-- A command word where it is read next: a `NOP` as the host's next write of `CMD` (it is never latched, R220), any
other word in `LATCH` with the sequencer in `EXEC`. -/
def State.placeHost (s : State) (w : CmdWord) : State :=
  if opField w = 0#4 then
    { s with
      host := { s.host with program := [.write 0x0#22 4 w], pc := 0, halted := false }
      turns := .host :: s.turns }
  else { s with latch := w, busy := true, phase := .exec, idx := 0, uop := none, turns := .sequencer :: s.turns }

/-- A table entry at index 0 of `INIT_SEQ`, closed by `END`, with the sequencer in that phase as `INIT` has it there:
`INITIALIZING`, the panel reset done (R224, R130). -/
def State.placeEntry (s : State) (e : Entry) : State :=
  { s with
    cfg := { s.cfg with initSeq := if e = 0 then [e] else [e, 0] }
    ctrl := .initializing, busy := true, rstDone := true, phase := .initSeq, idx := 0, uop := none
    turns := .sequencer :: s.turns }

/-- The lookup tables as `INIT` leaves them, where there are any: what `FB_SETBIT` takes its operands through (R163,
R198). -/
def State.withTables (s : State) : State := if s.cfg.strategy = .lut then s.buildLut else s

/-- A micro-operation code: the phase that runs it, or the slot of one issued alone. -/
def State.placeMicro (s : State) (e : Entry) : State :=
  if e = 0x8000#16 then
    { s with
      ctrl := .initializing, busy := true, rstDone := false, phase := .initReset, idx := 0, uop := none
      turns := .sequencer :: s.turns }
  else if e = 0xA000#16 then
    { s with
      ctrl := .rendering, busy := true, phase := .dispBufOpen, idx := 0, uop := none
      turns := .sequencer :: s.turns }
  else if e = 0xD000#16 then { s.withTables with uop := some e, turns := .sequencer :: s.turns }
  else { s with uop := some e, turns := .sequencer :: s.turns }

/-- A word where the next step fetches it, by its kind (R90). -/
def State.place (s : State) (c : Code) : State :=
  match c with
  | .host w => s.placeHost w
  | .table e => s.placeEntry e
  | .micro e => s.placeMicro e

end Sys2Proof.Machine
end

