-- ==== Sys2Proof/Machine/Step.lean ====
section
/-! DEFINITION. One step of the machine, and where a word is placed for the next step to run it. -/

namespace Sys2Proof.Machine

/-- One step (R8, R11, R247): the agent whose turn it is moves. An ill-formed configuration is refused (R5, R102). -/
def step (s : State) : Host.Outcome State Fault Refusal :=
  if s.cfg.wf then
    match s.issue with
    | .run i inBuild t => afterRun inBuild (exec i t)
    | .done t => .next t
    | .stop f => .fault f
  else .refused .illFormedConfig

/-- The state with a table row's word stored where the next step fetches its instruction (log entry 14). -/
def State.withFetchWord (s : State) (nbits w : Nat) : State := s.place (codeOfTableWord nbits w)

end Sys2Proof.Machine
end

