-- ==== Sys2Proof/Safety.lean ====
section
/-! DEFINITION. What counts as a good state and a good end of a run: the invariant the spec's rules keep, in parts that
each name their rule, and the end of a run (R331). -/

namespace Sys2Proof.Machine

/-- `BUSY = 1` exactly when `seq.phase` is not `IDLE` (R24). -/
def BusyMatchesPhase (s : State) : Prop := s.busy = true ↔ s.phase ≠ .idle

/-- The phases of `INIT` run in `INITIALIZING`, those of `DISPLAY` in `RENDERING`, and no others (R22, R23). -/
def PhaseMatchesCtrl (s : State) : Prop :=
  match s.phase with
  | .idle => s.ctrl ≠ .initializing ∧ s.ctrl ≠ .rendering
  | .exec => s.ctrl ≠ .initializing ∧ s.ctrl ≠ .rendering
  | .initReset => s.ctrl = .initializing
  | .initSeq => s.ctrl = .initializing
  | .initBuild => s.ctrl = .initializing
  | .dispStart => s.ctrl = .rendering
  | .dispBufOpen => s.ctrl = .rendering
  | .dispBuf => s.ctrl = .rendering
  | .dispBufClose => s.ctrl = .rendering
  | .dispCommit => s.ctrl = .rendering

/-- The panel reset pulse has run exactly when `INIT` is past its `INIT_RESET` phase (R29, R131). -/
def ResetRanOnce (s : State) : Prop :=
  s.rstDone = true ↔ s.ctrl ≠ .uninit ∧ s.phase ≠ .initReset

/-- A transaction is open across steps only while the buffer is streamed (R44, R126-R128). -/
def TxnMatchesPhase (s : State) : Prop :=
  s.txnOpen = true ↔ s.phase = .dispBuf ∨ s.phase = .dispBufClose

/-- `seq.idx` is inside the phase's table or the framebuffer, and 0 in a phase that has neither (R42, R127, R140). -/
def IdxInRange (s : State) : Prop :=
  match s.phase with
  | .initSeq => s.idx.toNat < s.cfg.initSeq.length
  | .dispStart => s.idx.toNat < s.cfg.frameStartSeq.length
  | .dispBuf => s.idx.toNat < fbLen s.cfg
  | .dispCommit => s.idx.toNat < s.cfg.frameCommitSeq.length
  | .idle => s.idx = 0
  | .exec => s.idx = 0
  | .initReset => s.idx = 0
  | .initBuild => s.idx = 0
  | .dispBufOpen => s.idx = 0
  | .dispBufClose => s.idx = 0

/-- The tables are valid exactly from `READY` on where they exist, and then hold what `LUT_BUILD` writes (R34, R196,
R198). -/
def LutMatches (s : State) : Prop :=
  (s.lutValid = true ↔ s.cfg.strategy = .lut ∧ (s.ctrl = .ready ∨ s.ctrl = .rendering)) ∧
  (s.lutValid = true → s.lutIndex = builtIndexTable s.cfg ∧ s.lutMask = builtMaskTable s.cfg)

/-- The framebuffer's memory is canonical and holds nothing beyond `fb[N-1]` (R33). -/
def FbWellFormed (s : State) : Prop :=
  s.fb.wf = true ∧ ∀ a, fbLen s.cfg ≤ a → s.fb.read a = none

/-- `RESULT` is 0 or the word of an address in the framebuffer (R30). -/
def ResultLegal (s : State) : Prop :=
  s.result = 0 ∨ ∃ i m, i < fbLen s.cfg ∧ oneHot m = true ∧ s.result = resultWord i m

/-- The lines are undriven before `INIT` and driven after it: chip-select active exactly in an open transaction, reset
deasserted between steps (R36, R44, R130). -/
def LinesMatch (s : State) : Prop :=
  (s.ctrl = .uninit → s.lineDc = .z ∧ s.lineCs = .z ∧ s.lineRst = .z ∧ s.trace = []) ∧
  (s.ctrl ≠ .uninit →
    (s.lineDc = dcCommand s.cfg ∨ s.lineDc = dcData s.cfg) ∧
    s.lineCs = (if s.txnOpen then csActive s.cfg else csInactive s.cfg) ∧
    s.lineRst = rstLevel s.cfg false)

/-- The invariant of the block: what holds in every state a run from reset reaches. -/
structure BlockInv (s : State) : Prop where
  /-- The configuration is well-formed (R5, R102; the pixel map's part is log entry 17's). -/
  config : s.cfg.wf = true
  /-- The model's own (log entry 11): no micro-operation is issued alone. -/
  noUop : s.uop = none
  busy : BusyMatchesPhase s
  ctrl : PhaseMatchesCtrl s
  resetOnce : ResetRanOnce s
  txn : TxnMatchesPhase s
  idx : IdxInRange s
  /-- No `NOP` is ever latched (R220, R221). -/
  latch : s.phase = .exec → opField s.latch ≠ 0#4
  lut : LutMatches s
  fb : FbWellFormed s
  result : ResultLegal s
  lines : LinesMatch s

/-- The tables a translation would read are those `LUT_BUILD` writes: what `READY` gives (R198). -/
def TablesReady (s : State) : Prop :=
  s.cfg.strategy = .lut →
    s.lutValid = true ∧ s.lutIndex = builtIndexTable s.cfg ∧ s.lutMask = builtMaskTable s.cfg

/-- The end of a run of the host's program (R331). -/
def State.runEnded (s : State) : Bool := s.host.halted && !s.busy && s.phase == .idle

/-- The answer the `k`-th wait from here on gets, counting from 0 (R8, D50): the bus's listed answers, then free
values. -/
def State.answer (s : State) (k : Nat) : Wait :=
  match s.busAnswers[k]? with
  | some a => a
  | none => Config.busAnswer (s.draws + k)

/-- The next `n` waits all draw `READY` (R8, R240): the bus lists these answers; or the sequencer moves alone, so that no
host read comes between and draws free values, and each answer, listed or free, is `READY`. -/
def AllWaitsReady (s : State) (n : Nat) : Prop :=
  (∀ k, k < n → s.busAnswers[k]? = some .ready) ∨ (s.turns = [] ∧ ∀ k, k < n → s.answer k = .ready)

/-- How many steps a schedule takes until the sequencer has moved `m` times (R247): past the turns listed the sequencer
moves alone while it has a step (log entry 9). -/
def stepsToMoves : List Turn → Nat → Nat
  | [], m => m
  | _ :: _, 0 => 0
  | .sequencer :: ts, m + 1 => stepsToMoves ts m + 1
  | .host :: ts, m + 1 => stepsToMoves ts (m + 1) + 1
  | .blockReset :: ts, m + 1 => stepsToMoves ts (m + 1) + 1

/-- The schedule of the next `n` steps holds no block reset, and the host is not stuck (R11; log entry 16) in the turns
it has there. -/
def RunsThrough (s : State) (n : Nat) : Prop :=
  .blockReset ∉ s.turns.take n ∧
  (.host ∈ s.turns.take n → Host.Core.run Sys2Proof.core n s ≠ Host.Outcome.fault Fault.hostStuck)

/-- It is the host's turn, and its program writes the 32-bit word `v` at offset `off`. -/
def State.hostWrites (s : State) (off : HostOffset) (v : CmdWord) : Prop :=
  s.turn = .host ∧ s.hostOp = some (.write off 4 v)

/-- It is the sequencer's turn to execute a latched command of operation `op` (R221). -/
def State.executes (s : State) (op : BitVec 4) : Prop :=
  s.turn = .sequencer ∧ s.phase = .exec ∧ opField s.latch = op

/-- The events of one entry of a protocol table whose waits draw `READY` (R123, R124, R240): none for `END`. -/
def entryEvents (c : Config) (e : Entry) : List Event :=
  match decodeEntry e with
  | .ok (.cmd b) =>
    [.line .dc (dcCommand c), .line .cs (csActive c), .byte b, .done, .line .cs (csInactive c)]
  | .ok (.data b) =>
    [.line .dc (dcData c), .line .cs (csActive c), .byte b, .done, .line .cs (csInactive c)]
  | _ => []

/-- `T(table)` of R240. -/
def tableEvents (c : Config) (t : List Entry) : List Event := t.flatMap (entryEvents c)

end Sys2Proof.Machine
end

