-- ==== Sys2Proof/Certificates/Slice0/Obligations.lean ====
section
/-! DEFINITION. The statements for the provers. A statement about an instruction gives the next state as an update of
the state before: every field it does not name is unchanged. -/

open Sys2Proof Sys2Proof.Machine

/-! ### Encoding (30_encoding.md) -/

/-- Decoding undoes encoding for every instruction at every operand; a word decodes only to an instruction its source
may hold; and every instruction has a word in each source that may hold it (R90, R94, R100, R104). -/
def Obligations.DecodeUndoesEncode : Prop :=
  (∀ i : Instr, decode (encode i) = .ok i) ∧
  (∀ (c : Code) (i : Instr), decode c = .ok i → i.wellFormedFor c.source = true) ∧
  (∀ (i : Instr) (src : Source), i.wellFormedFor src = true → ∃ c : Code, c.source = src ∧ decode c = .ok i)

/-- Every host command word decodes, by its top four bits alone, and the fields are the bits R93 names (R92, R98). -/
def Obligations.HostWordsDecodeByOpAlone : Prop :=
  ∀ w : CmdWord,
    let op := w.toNat / 2 ^ 28
    let c := decide (w.toNat / 2 ^ 24 % 2 = 1)
    let y := BitVec.ofNat 12 (w.toNat / 2 ^ 12 % 2 ^ 12)
    let x := BitVec.ofNat 12 (w.toNat % 2 ^ 12)
    decode (.host w) = .ok
      (if op = 0 then .nop
       else if op = 1 then .init
       else if op = 2 then .clear c
       else if op = 3 then .setPixel x y c
       else if op = 4 then .display
       else if op = 5 then .xlate x y
       else if op = 6 then .illegal6
       else if op = 7 then .illegal7
       else if op = 8 then .illegal8
       else if op = 9 then .illegal9
       else if op = 10 then .illegalA
       else if op = 11 then .illegalB
       else if op = 12 then .illegalC
       else if op = 13 then .illegalD
       else if op = 14 then .illegalE
       else .illegalF)

/-- The table entries that decode are `END`, `CMD b` and `DATA b`, and no others (R100). -/
def Obligations.TableEntriesDecodeToThree : Prop :=
  ∀ (e : Entry) (i : Instr), decode (.table e) = .ok i ↔
    (e.toNat = 0 ∧ i = .endSeq) ∨
    (∃ b : Byte, e.toNat = 0x1000 + b.toNat ∧ i = .cmd b) ∨
    (∃ b : Byte, e.toNat = 0x2000 + b.toNat ∧ i = .data b)

/-- The micro-operation codes that decode are those of R104's table, and no others. -/
def Obligations.MicroCodesDecodeToEight : Prop :=
  ∀ (e : Entry) (i : Instr), decode (.micro e) = .ok i ↔
    (∃ b : Byte, e.toNat = 0x1000 + b.toNat ∧ i = .cmd b) ∨
    (∃ b : Byte, e.toNat = 0x2000 + b.toNat ∧ i = .data b) ∨
    (e.toNat = 0x8000 ∧ i = .resetPulse) ∨
    (∃ a : Bool, e.toNat = 0x9000 + a.toNat ∧ i = .setRstLevel a) ∨
    (e.toNat = 0xA000 ∧ i = .sendBuffer) ∨
    (e.toNat = 0xB000 ∧ i = .lutBuild) ∨
    (∃ c : Bool, e.toNat = 0xC000 + c.toNat ∧ i = .fbFill c) ∨
    (e.toNat = 0xD000 ∧ i = .fbSetbit)

/-- Words the spec writes out (95_test_vectors.md section 3.1, R100, R104) decode to what they stand for. -/
def Obligations.SpecWordsDecode : Prop :=
  decode (.host 0x3112B18F#32) = .ok (.setPixel 399#12 299#12 true) ∧
  decode (.host 0x2E000000#32) = .ok (.clear false) ∧
  decode (.host 0x5100000A#32) = .ok (.xlate 10#12 0#12) ∧
  decode (.host 0x0ABCDEF0#32) = .ok .nop ∧
  decode (.host 0x7FFFFFFF#32) = .ok .illegal7 ∧
  decode (.table 0x20A5#16) = .ok (.data 0xA5#8) ∧
  decode (.table 0x1100#16) = .error .reservedBits ∧
  decode (.micro 0xC001#16) = .ok (.fbFill true)

/-- The check of a protocol table is R102's three clauses, and a configuration with a table that breaks them is refused
at every step. -/
def Obligations.TableCheckIsWellFormedness : Prop :=
  (∀ t : List Entry, tableWf t = true ↔
    (1 ≤ t.length ∧ t.length ≤ 65536) ∧
    (∀ k, k < t.length → (t[k]? = some 0x0000#16 ↔ k + 1 = t.length)) ∧
    (∀ k e, k + 1 < t.length → t[k]? = some e →
      (e.toNat / 2 ^ 12 = 1 ∨ e.toNat / 2 ^ 12 = 2) ∧ e.toNat / 2 ^ 8 % 2 ^ 4 = 0)) ∧
  ∀ s : State,
    tableWf s.cfg.initSeq = false ∨ tableWf s.cfg.frameStartSeq = false ∨ tableWf s.cfg.frameCommitSeq = false →
    step s = .refused .illFormedConfig

/-! ### Steps (10_state.md section 6, 43_controller_ops.md sections 1 and 10) -/

/-- The sequencer's step runs the instruction its word decodes to; after the `LUT_BUILD` of `INIT_BUILD` it goes on to
`READY` (R227). A `NOP` runs in the host's step that writes it (R222). -/
def Obligations.StepRunsDecodedInstruction : Prop :=
  (∀ (s : State) (c : Code) (i : Instr), s.cfg.wf = true → s.turn = .sequencer →
    s.fetch = .ok (some c) → decode c = .ok i →
    step s = afterRun (s.uop.isNone && s.phase == .initBuild)
      (exec i { s with turns := s.turns.tail, uop := none })) ∧
  (∀ o : Host.Outcome State Fault Refusal, afterRun false o = o) ∧
  (∀ t : State, afterRun true (.next t) =
    .next { t with ctrl := .ready, lastErr := .none, phase := .idle, idx := 0, busy := false }) ∧
  (∀ (s : State) (w : CmdWord) (i : Instr), s.cfg.wf = true → s.hostWrites 0x0#22 w →
    decode (.host w) = .ok i → opField w = 0#4 →
    step s = exec i { s with turns := s.turns.tail, host := { s.host with pc := s.host.pc + 1 } })

/-- What the sequencer fetches in each phase (R41, R104, R221); in `IDLE` it has no step. -/
def Obligations.SequencerFetchesByPhase : Prop :=
  ∀ s : State, s.uop = none →
    (s.phase = .idle → s.cfg.wf = true → s.turn = .sequencer → step s = .fault .sequencerStuck) ∧
    (s.phase = .exec → opField s.latch ≠ 0#4 → s.fetch = .ok (some (.host s.latch))) ∧
    (s.phase = .initReset → s.fetch = .ok (some (.micro 0x8000#16))) ∧
    (∀ (t : List Entry) (e : Entry),
      (s.phase = .initSeq ∧ t = s.cfg.initSeq ∨ s.phase = .dispStart ∧ t = s.cfg.frameStartSeq ∨
        s.phase = .dispCommit ∧ t = s.cfg.frameCommitSeq) →
      t[s.idx.toNat]? = some e → s.fetch = .ok (some (.table e))) ∧
    (s.phase = .initBuild → s.fetch = .ok (if s.cfg.strategy = .lut then some (.micro 0xB000#16) else none)) ∧
    (s.phase = .dispBufOpen ∨ s.phase = .dispBuf ∨ s.phase = .dispBufClose →
      s.fetch = .ok (some (.micro 0xA000#16)))

/-- A host write of `CMD` (R220): dropped with `COLLIDE` while busy; nothing for a `NOP`; else latched, for the
sequencer to execute. -/
def Obligations.CmdWriteStartsOrCollides : Prop :=
  ∀ (s : State) (w : CmdWord), s.cfg.wf = true → s.hostWrites 0x0#22 w →
    let s' := { s with turns := s.turns.tail, host := { s.host with pc := s.host.pc + 1 } }
    (s.busy = true → step s = .next { s' with collide := true }) ∧
    (s.busy = false → w.toNat / 2 ^ 28 = 0 → step s = .next s') ∧
    (s.busy = false → w.toNat / 2 ^ 28 ≠ 0 →
      step s = .next { s' with latch := w, busy := true, phase := .exec, idx := 0 })

/-- A step from a configuration that breaks R5 or R102 is refused, whoever's turn it is. The clause on the pixel map is
the model's choice, not a clause of R5: log entry 17, DEDUCED from R185's "provided it is injective". Nothing else is
refused. -/
def Obligations.IllFormedConfigRefused : Prop :=
  ∀ s : State, step s = .refused .illFormedConfig ↔
    ¬ ((1 ≤ s.cfg.width ∧ s.cfg.width ≤ 4096) ∧ (1 ≤ s.cfg.height ∧ s.cfg.height ≤ 4096) ∧
      s.cfg.pinDout ≠ .unused ∧ s.cfg.pinSclk ≠ .unused ∧
      tableWf s.cfg.initSeq = true ∧ tableWf s.cfg.frameStartSeq = true ∧ tableWf s.cfg.frameCommitSeq = true ∧
      s.cfg.pixelMap.wf (s.cfg.width * s.cfg.height) = true)

/-! ### Host commands (43_controller_ops.md) -/

/-- `NOP` (R222): `OP` 0 whatever the other bits; nothing while idle, a collision while busy, whatever the controller's
state; `LAST_ERR` is not written. -/
def Obligations.NopDoesNothingOrCollides : Prop :=
  (∀ w : CmdWord, w.toNat / 2 ^ 28 = 0 → decode (.host w) = .ok .nop) ∧
  ∀ s : State,
    (s.busy = false → exec .nop s = .next s) ∧
    (s.busy = true → exec .nop s = .next { s with collide := true })

/-- `INIT` (R224): in `UNINIT` the lines go to their inactive levels, chip-select first, and the reset pulse is next; in
any other state `INVALID_STATE`. -/
def Obligations.InitDrivesLinesInactive : Prop :=
  (∀ w : CmdWord, w.toNat / 2 ^ 28 = 1 → decode (.host w) = .ok .init) ∧
  ∀ s : State,
    let cs := Level.ofBit !s.cfg.csActiveLevel
    let dc := Level.ofBit s.cfg.dcCmdLevel
    let rst := Level.ofBit !s.cfg.rstActiveLevel
    (s.ctrl = .uninit → exec .init s = .next { s with
      ctrl := .initializing, lineCs := cs, lineDc := dc, lineRst := rst, phase := .initReset, idx := 0
      trace := s.trace ++ [.line .cs cs, .line .dc dc, .line .rst rst] }) ∧
    (s.ctrl ≠ .uninit → exec .init s = .next { s with
      lastErr := .invalidState, phase := .idle, idx := 0, busy := false })

/-- A command whose precondition fails ends with `INVALID_STATE` and changes nothing else; one whose precondition holds,
and `NOP` and the illegal operations, which have none, do not end so (R223). -/
def Obligations.FailedPreconditionIsInvalidState : Prop :=
  ∀ (s : State) (w : CmdWord) (i : Instr), decode (.host w) = .ok i →
    let op := w.toNat / 2 ^ 28
    let fails := (op = 1 ∧ s.ctrl ≠ .uninit) ∨ (2 ≤ op ∧ op ≤ 5 ∧ s.ctrl ≠ .ready)
    (fails → exec i s = .next { s with lastErr := .invalidState, phase := .idle, idx := 0, busy := false }) ∧
    (¬ fails → s.lastErr ≠ .invalidState → ∀ t, exec i s = .next t → t.lastErr ≠ .invalidState)

/-- `FB_FILL` (R160) and `CLEAR` (R229): every byte of `fb`, padding included, takes the colour's value and no address
beyond it changes; `CLEAR` ends with `NONE`, outside `READY` with `INVALID_STATE`. -/
def Obligations.ClearFillsFramebuffer : Prop :=
  (∀ c : Bool, decode (.micro (0xC000#16 ||| (bitByte c).setWidth 16)) = .ok (.fbFill c)) ∧
  (∀ w : CmdWord, w.toNat / 2 ^ 28 = 2 → decode (.host w) = .ok (.clear (decide (w.toNat / 2 ^ 24 % 2 = 1)))) ∧
  ∀ (s : State) (c : Bool),
    (∃ m : Memory, exec (.fbFill c) s = .next { s with fb := m } ∧
      (s.ctrl = .ready →
        exec (.clear c) s = .next { s with fb := m, lastErr := .none, phase := .idle, idx := 0, busy := false }) ∧
      ∀ a, m.read a = if a < fbLen s.cfg then some (if c then 0xFF#8 else 0x00#8) else s.fb.read a) ∧
    (s.ctrl ≠ .ready → exec (.clear c) s = .next { s with
      lastErr := .invalidState, phase := .idle, idx := 0, busy := false })

/-- `SET_PIXEL` (R231, R163). In `READY`, in bounds: the one bit of the native index takes the colour, the byte's other
bits and every other byte stay, and it ends with `NONE`; out of bounds `fb` stays, with the code of `OOR_POLICY`. Outside
`READY`: `INVALID_STATE`. -/
def Obligations.SetPixelWritesOneBit : Prop :=
  (∀ w : CmdWord, w.toNat / 2 ^ 28 = 3 → decode (.host w) = .ok
    (.setPixel (BitVec.ofNat 12 (w.toNat % 2 ^ 12)) (BitVec.ofNat 12 (w.toNat / 2 ^ 12 % 2 ^ 12))
      (decide (w.toNat / 2 ^ 24 % 2 = 1)))) ∧
  ∀ (s : State) (x y : Coord) (c : Bool),
    let ends := fun (m : Memory) (code : ErrCode) =>
      exec (.setPixel x y c) s = .next { s with fb := m, lastErr := code, phase := .idle, idx := 0, busy := false }
    let inside := x.toNat < logicalWidth s.cfg ∧ y.toNat < logicalHeight s.cfg
    let n := nidx s.cfg x.toNat y.toNat
    (s.ctrl ≠ .ready → ends s.fb .invalidState) ∧
    (s.ctrl = .ready → ¬ inside → ends s.fb (if s.cfg.oorPolicy = .report then .outOfRange else .none)) ∧
    (s.ctrl = .ready → inside → s.cfg.wf = true → TablesReady s →
      ∃ (m : Memory) (b : Byte), ends m .none ∧ n / 8 < fbLen s.cfg ∧ m.read (n / 8) = some b ∧
        (∀ k, k < 8 → b.getLsbD k = if k = 7 - n % 8 then c else (s.fbByte (n / 8)).getLsbD k) ∧
        ∀ a, a ≠ n / 8 → m.read a = s.fb.read a)

/-- An out-of-bounds coordinate is rejected by every strategy before any table or framebuffer access, whatever the
tables hold (R181): `SET_PIXEL` leaves `fb` as it is and `XLATE` sets `RESULT` to 0, with the code of `OOR_POLICY`; no
clamping. -/
def Obligations.OutOfBoundsIsRejected : Prop :=
  ∀ (s : State) (x y : Coord) (c : Bool), s.ctrl = .ready →
    ¬ (x.toNat < logicalWidth s.cfg ∧ y.toNat < logicalHeight s.cfg) →
    let code : ErrCode := if s.cfg.oorPolicy = .report then .outOfRange else .none
    (∀ t : Strategy, ({ s with cfg := { s.cfg with strategy := t } } : State).translate x.toNat y.toNat = .ok none) ∧
    exec (.setPixel x y c) s = .next { s with lastErr := code, phase := .idle, idx := 0, busy := false } ∧
    exec (.xlate x y) s = .next { s with result := 0, lastErr := code, phase := .idle, idx := 0, busy := false }

/-- `XLATE` (R241, R30). In `READY`: `RESULT` is `VALID`, byte index and mask of a coordinate in bounds, and 0 with the
code of `OOR_POLICY` out of bounds; nothing else changes but the command's end. Outside `READY`: `INVALID_STATE`. -/
def Obligations.XlateWritesResult : Prop :=
  (∀ w : CmdWord, w.toNat / 2 ^ 28 = 5 → decode (.host w) = .ok
    (.xlate (BitVec.ofNat 12 (w.toNat % 2 ^ 12)) (BitVec.ofNat 12 (w.toNat / 2 ^ 12 % 2 ^ 12)))) ∧
  ∀ (s : State) (x y : Coord),
    let ends := fun (r : CmdWord) (code : ErrCode) =>
      exec (.xlate x y) s = .next { s with result := r, lastErr := code, phase := .idle, idx := 0, busy := false }
    let inside := x.toNat < logicalWidth s.cfg ∧ y.toNat < logicalHeight s.cfg
    let n := nidx s.cfg x.toNat y.toNat
    (s.ctrl ≠ .ready → ends s.result .invalidState) ∧
    (s.ctrl = .ready → ¬ inside → ends 0 (if s.cfg.oorPolicy = .report then .outOfRange else .none)) ∧
    (s.ctrl = .ready → inside → s.cfg.wf = true → TablesReady s →
      ∃ r : CmdWord, ends r .none ∧ r.toNat = 2 ^ 31 + n / 8 * 2 ^ 8 + 2 ^ (7 - n % 8))

/-- `DISPLAY` (R236): in `READY`, `RENDERING` with the frame-start table next; outside it `INVALID_STATE`. -/
def Obligations.DisplayStartsRendering : Prop :=
  (∀ w : CmdWord, w.toNat / 2 ^ 28 = 4 → decode (.host w) = .ok .display) ∧
  ∀ s : State,
    (s.ctrl = .ready → exec .display s = .next { s with ctrl := .rendering, phase := .dispStart, idx := 0 }) ∧
    (s.ctrl ≠ .ready → exec .display s = .next { s with
      lastErr := .invalidState, phase := .idle, idx := 0, busy := false })

/-- Each of the ten illegal operations (R243) ends with `ILLEGAL_OP` in every state and changes nothing else; every
word with `OP` from 6 to 15 is one of them (R96). -/
def Obligations.IllegalOpsOnlyReport : Prop :=
  let ops : List Instr := [.illegal6, .illegal7, .illegal8, .illegal9, .illegalA, .illegalB, .illegalC, .illegalD,
    .illegalE, .illegalF]
  (∀ (i : Instr) (s : State), i ∈ ops →
    exec i s = .next { s with lastErr := .illegalOp, phase := .idle, idx := 0, busy := false }) ∧
  ∀ w : CmdWord, 6 ≤ w.toNat / 2 ^ 28 → ∃ i, i ∈ ops ∧ decode (.host w) = .ok i

/-- After `CLEAR WHITE; SET_PIXEL x, y, BLACK` exactly the one bit the translator gives is 1, padding included, and a
further `CLEAR WHITE` makes every bit 0; out of bounds `SET_PIXEL` leaves `fb` as it is (R232). -/
def Obligations.PixelRoundTrip : Prop :=
  ∀ (s : State) (x y : Coord), s.cfg.wf = true → s.ctrl = .ready → TablesReady s →
    ∃ (r : Option PixelAddr) (t u v : State),
      s.translate x.toNat y.toNat = .ok r ∧
      exec (.clear false) s = .next t ∧ exec (.setPixel x y true) t = .next u ∧ exec (.clear false) u = .next v ∧
      match r with
      | some a =>
        (∀ j k, j < fbLen s.cfg → k < 8 → (u.fbByte j).getLsbD k = (decide (j = a.idx) && a.mask.getLsbD k)) ∧
        a.idx < fbLen s.cfg ∧ (∃ k, k < 8 ∧ a.mask.toNat = 2 ^ k) ∧ pixelOf (u.fbByte a.idx) a.mask = true ∧
        (∀ j, j < fbLen s.cfg → v.fbByte j = 0x00#8) ∧ pixelOf (v.fbByte a.idx) a.mask = false
      | none =>
        ¬ (x.toNat < logicalWidth s.cfg ∧ y.toNat < logicalHeight s.cfg) ∧ u.fb = t.fb ∧
        ∃ u', exec (.setPixel x y true) s = .next u' ∧ u'.fb = s.fb

/-! ### Protocol-table entries and micro-operations (40_transport.md) -/

/-- `END` (R141): the phase after the table, with no event; after `FRAME_COMMIT_SEQ` the frame is done (R238). -/
def Obligations.EndMovesToNextPhase : Prop :=
  ∀ s : State,
    (s.phase = .initSeq → exec .endSeq s = .next { s with phase := .initBuild, idx := 0 }) ∧
    (s.phase = .dispStart → exec .endSeq s = .next { s with phase := .dispBufOpen, idx := 0 }) ∧
    (s.phase = .dispCommit →
      exec .endSeq s = .next { s with
        ctrl := .ready, torn := false, lastErr := .none, phase := .idle, idx := 0, busy := false })

/-- `CMD b` and `DATA b` (R123, R124) as a table step (R140), by the answers its two waits draw. Both `READY`: the byte,
`DONE`, and the next entry. Either `TIMEOUT`: the transaction is abandoned (R125), without the byte if the accept wait
timed out, and `INIT` fails for good (R226) or `DISPLAY` aborts (R239). `RST_DONE` = 0 is the modelling fault of R131.
What `TCOUNT` is left at is not stated here. -/
def Obligations.EntrySendsItsByte : Prop :=
  (∀ b : Byte, decode (.table (0x1000#16 ||| b.setWidth 16)) = .ok (.cmd b) ∧
    decode (.table (0x2000#16 ||| b.setWidth 16)) = .ok (.data b)) ∧
  ∀ (s : State) (b : Byte) (isCmd : Bool), s.phase.runsTable = true →
    let i : Instr := if isCmd then .cmd b else .data b
    let dc := Level.ofBit (if isCmd then s.cfg.dcCmdLevel else !s.cfg.dcCmdLevel)
    let act := Level.ofBit s.cfg.csActiveLevel
    let inact := Level.ofBit !s.cfg.csActiveLevel
    let sent := fun (es : List Event) (waits k : Nat) => { s with
      lineDc := dc, lineCs := inact, txnOpen := false, tcount := k
      busAnswers := s.busAnswers.drop waits, draws := s.draws + waits
      trace := s.trace ++ ([.line .dc dc, .line .cs act] ++ es ++ [.line .cs inact]) }
    let timedOut := fun t : State =>
      let u := { t with lastErr := .transportTimeout, phase := .idle, idx := 0, busy := false }
      if s.phase = .initSeq then { u with ctrl := .failed } else { u with ctrl := .ready, torn := true }
    (s.rstDone = true → s.answer 0 = .ready → s.answer 1 = .ready →
      ∃ k, exec i s = .next { sent [.byte b, .done] 2 k with idx := s.idx + 1 }) ∧
    (s.rstDone = true → s.answer 0 = .timeout → ∃ k, exec i s = .next (timedOut (sent [.abort] 1 k))) ∧
    (s.rstDone = true → s.answer 0 = .ready → s.answer 1 = .timeout →
      ∃ k, exec i s = .next (timedOut (sent [.byte b, .abort] 2 k))) ∧
    (s.rstDone = false → exec i s = .fault .resetOrder)

/-- What `TCOUNT` holds after a wait (R43): the budget after `TIMEOUT`. After `READY` it is at most the budget: the
model's choice (log entry 8), since R43 says that a model keeps no counter. -/
def Obligations.TcountStaysWithinBudget : Prop :=
  ∀ (s : State) (budget : Nat),
    (s.answer 0 = .timeout → (s.waited budget).tcount = budget) ∧
    (s.answer 0 = .ready → (s.waited budget).tcount ≤ budget)

/-- `RESET_PULSE` (R130): assert, hold, deassert, recover, with no wait on the bus; then `INIT_SEQ`. A second one
since block reset is the modelling fault of R131. -/
def Obligations.ResetPulseRunsOnce : Prop :=
  decode (.micro 0x8000#16) = .ok .resetPulse ∧
  ∀ s : State,
    (s.rstDone = false → exec .resetPulse s = .next { s with
      lineRst := Level.ofBit !s.cfg.rstActiveLevel, rstDone := true, phase := .initSeq, idx := 0
      trace := s.trace ++ [.line .rst (Level.ofBit s.cfg.rstActiveLevel), .delay s.cfg.tRstHold,
        .line .rst (Level.ofBit !s.cfg.rstActiveLevel), .delay s.cfg.tRstRecover] }) ∧
    (s.rstDone = true → exec .resetPulse s = .fault .resetOrder)

/-- `SET_RST_LEVEL A` (R132): the reset line at its asserted or deasserted level, one event. -/
def Obligations.SetRstLevelDrivesReset : Prop :=
  ∀ (s : State) (a : Bool),
    let l := Level.ofBit (if a then s.cfg.rstActiveLevel else !s.cfg.rstActiveLevel)
    decode (.micro (0x9000#16 ||| (bitByte a).setWidth 16)) = .ok (.setRstLevel a) ∧
    exec (.setRstLevel a) s = .next { s with lineRst := l, trace := s.trace ++ [.line .rst l] }

/-- `SEND_BUFFER` open (R126): data state, chip-select, the first byte next. -/
def Obligations.BufferOpens : Prop :=
  ∀ s : State, s.phase = .dispBufOpen →
    let dc := Level.ofBit !s.cfg.dcCmdLevel
    let act := Level.ofBit s.cfg.csActiveLevel
    exec .sendBuffer s = .next { s with
      lineDc := dc, lineCs := act, txnOpen := true, phase := .dispBuf, idx := 0
      trace := s.trace ++ [.line .dc dc, .line .cs act] }

/-- `SEND_BUFFER` byte (R127): the byte of `fb` at `seq.idx`, then the next byte or, after the last, the close; on
`TIMEOUT` no byte, and the frame is abandoned (R239). What `TCOUNT` is left at is not stated here. -/
def Obligations.BufferStreamsByte : Prop :=
  ∀ s : State, s.phase = .dispBuf → s.idx.toNat < fbLen s.cfg →
    let inact := Level.ofBit !s.cfg.csActiveLevel
    (s.answer 0 = .ready → ∃ k, exec .sendBuffer s = .next { s with
      tcount := k, busAnswers := s.busAnswers.tail, draws := s.draws + 1
      trace := s.trace ++ [.byte (s.fbByte s.idx.toNat)]
      phase := if s.idx.toNat + 1 < fbLen s.cfg then .dispBuf else .dispBufClose
      idx := if s.idx.toNat + 1 < fbLen s.cfg then s.idx + 1 else 0 }) ∧
    (s.answer 0 = .timeout → ∃ k, exec .sendBuffer s = .next { s with
      tcount := k, busAnswers := s.busAnswers.tail, draws := s.draws + 1
      trace := s.trace ++ [.abort, .line .cs inact], lineCs := inact, txnOpen := false
      ctrl := .ready, torn := true, lastErr := .transportTimeout, phase := .idle, idx := 0, busy := false })

/-- `SEND_BUFFER` close (R128): `DONE`, chip-select released, the commit table next; on `TIMEOUT` the frame is
abandoned (R239). What `TCOUNT` is left at is not stated here. -/
def Obligations.BufferCloses : Prop :=
  ∀ s : State, s.phase = .dispBufClose →
    let inact := Level.ofBit !s.cfg.csActiveLevel
    (s.answer 0 = .ready → ∃ k, exec .sendBuffer s = .next { s with
      tcount := k, busAnswers := s.busAnswers.tail, draws := s.draws + 1
      trace := s.trace ++ [.done, .line .cs inact], lineCs := inact, txnOpen := false
      phase := .dispCommit, idx := 0 }) ∧
    (s.answer 0 = .timeout → ∃ k, exec .sendBuffer s = .next { s with
      tcount := k, busAnswers := s.busAnswers.tail, draws := s.draws + 1
      trace := s.trace ++ [.abort, .line .cs inact], lineCs := inact, txnOpen := false
      ctrl := .ready, torn := true, lastErr := .transportTimeout, phase := .idle, idx := 0, busy := false })

/-- `LUT_BUILD` (R196): `H` entries, entry `k` holding byte index and mask of the first pixel of the row that key `k`
selects; nothing else but `LUT_VALID` changes. -/
def Obligations.LutBuildFillsTables : Prop :=
  decode (.micro 0xB000#16) = .ok .lutBuild ∧
  ∀ s : State, s.cfg.wf = true → s.cfg.strategy = .lut →
    ∃ (index : List LutIndex) (mask : List Byte),
      exec .lutBuild s = .next { s with lutIndex := index, lutMask := mask, lutValid := true } ∧
      index.length = s.cfg.height ∧ mask.length = s.cfg.height ∧
      (s.cfg.pixelMap = .std → ∀ k, k < s.cfg.height →
        let r := if s.cfg.orient = .portrait then k else s.cfg.height - 1 - k
        (index[k]?.map BitVec.toNat) = some (r * s.cfg.width / 8) ∧
        (mask[k]?.map BitVec.toNat) = some (2 ^ (7 - r * s.cfg.width % 8)))

/-- The `INIT_BUILD` step (R227): the tables where the strategy has them, then `READY` with `NONE`; `fb` is not
written. -/
def Obligations.InitBuildMakesReady : Prop :=
  ∀ s : State, s.cfg.wf = true → s.turn = .sequencer → s.uop = none → s.phase = .initBuild →
    let t := { s with
      turns := s.turns.tail, ctrl := .ready, lastErr := .none, phase := .idle, idx := 0, busy := false }
    (s.cfg.strategy ≠ .lut → step s = .next t) ∧
    (s.cfg.strategy = .lut → step s = .next { t with
      lutIndex := builtIndexTable s.cfg, lutMask := builtMaskTable s.cfg, lutValid := true })

/-- `FB_SETBIT` issued alone (R163): one bit of one byte, at the address the translator gives for the latched
coordinate, takes the latched colour; every other bit and byte stays. -/
def Obligations.SetbitWritesOneBit : Prop :=
  ∀ s : State, s.cfg.wf = true → TablesReady s →
    (xField s.latch).toNat < logicalWidth s.cfg → (yField s.latch).toNat < logicalHeight s.cfg →
    let n := nidx s.cfg (xField s.latch).toNat (yField s.latch).toNat
    ∃ (m : Memory) (b : Byte),
      exec .fbSetbit s = .next { s with fb := m } ∧ m.read (n / 8) = some b ∧
      (∀ k, k < 8 → b.getLsbD k = if k = 7 - n % 8 then colourField s.latch else (s.fbByte (n / 8)).getLsbD k) ∧
      ∀ a, a ≠ n / 8 → m.read a = s.fb.read a

/-! ### Address translator (42_address_transform.md) -/

/-- `STD_MAP`: the orientation maps (R184) and the byte and bit of a native index (R183). -/
def Obligations.StdMapFormula : Prop :=
  ∀ (c : Config) (x y : Nat), c.pixelMap = .std →
    (c.orient = .portrait →
      logicalWidth c = c.width ∧ logicalHeight c = c.height ∧ physCol c x y = x ∧ physRow c x y = y ∧
      nidx c x y = y * c.width + x) ∧
    (c.orient = .landscape →
      logicalWidth c = c.height ∧ logicalHeight c = c.width ∧ physCol c x y = y ∧
      physRow c x y = c.height - 1 - x ∧ nidx c x y = (c.height - 1 - x) * c.width + y) ∧
    ∀ n, (addrOf n).idx = n / 8 ∧ (addrOf n).mask.toNat = 2 ^ (7 - n % 8)

/-- The three strategies give the same result for every encodable coordinate, in bounds and out, the lookup on tables
that `LUT_BUILD` built (R200). -/
def Obligations.StrategiesAgree : Prop :=
  ∀ (s : State) (x y : Nat), s.cfg.wf = true →
    s.lutValid = true → s.lutIndex = builtIndexTable s.cfg → s.lutMask = builtMaskTable s.cfg →
    x ≤ 4095 → y ≤ 4095 →
    (∀ t : Strategy, ({ s with cfg := { s.cfg with strategy := t } } : State).translate x y =
      .ok (translateDirect s.cfg x y)) ∧
    (s.cfg.pixelMap = .std →
      translateShift s.cfg x y = translateDirect s.cfg x y ∧
      translateLut s x y = .ok (translateDirect s.cfg x y))

/-- Under `STD_MAP` the native bit index is a bijection from the coordinates in bounds onto the indices below `NPIX`,
with the inverse that R201 gives, and byte index and mask determine the native index. -/
def Obligations.PixelMapIsBijective : Prop :=
  ∀ c : Config, c.wf = true → c.pixelMap = .std →
    (∀ x y, x < logicalWidth c → y < logicalHeight c → nidx c x y < c.width * c.height) ∧
    (∀ n, n < c.width * c.height →
      let x := if c.orient = .portrait then n % c.width else c.height - 1 - n / c.width
      let y := if c.orient = .portrait then n / c.width else n % c.width
      x < logicalWidth c ∧ y < logicalHeight c ∧ nidx c x y = n ∧
        ∀ x' y', x' < logicalWidth c → y' < logicalHeight c → nidx c x' y' = n → x' = x ∧ y' = y) ∧
    ∀ n n', addrOf n = addrOf n' → n = n'

/-- An in-bounds coordinate maps inside the framebuffer, to a one-hot mask, and to no padding bit, under every
admitted map (R188, R162). -/
def Obligations.TranslationStaysInFramebuffer : Prop :=
  ∀ (c : Config) (x y : Nat), c.wf = true → x < logicalWidth c → y < logicalHeight c →
    nidx c x y < npix c ∧ (addrOf (nidx c x y)).idx < fbLen c ∧
    (∃ k, k < 8 ∧ (addrOf (nidx c x y)).mask.toNat = 2 ^ k) ∧
    ∀ p, npix c ≤ p → addrOf p ≠ addrOf (nidx c x y)

/-- The corners (R202): the four corners are in bounds and map inside `fb`, `x = LW` or `y = LH` is `INVALID`, and under
`STD_MAP` the corners have the native indices of the table. -/
def Obligations.CornersMapAsTabled : Prop :=
  ∀ c : Config, c.wf = true →
    let w := logicalWidth c
    let h := logicalHeight c
    (∀ x y, (x = 0 ∨ x = w - 1) → (y = 0 ∨ y = h - 1) →
      inBounds c x y = true ∧ ∃ a, translateDirect c x y = some a ∧ a.idx < fbLen c) ∧
    (∀ x y, translateDirect c w y = none ∧ translateDirect c x h = none) ∧
    (c.pixelMap = .std → c.orient = .portrait →
      nidx c 0 0 = 0 ∧ nidx c (w - 1) 0 = c.width - 1 ∧ nidx c 0 (h - 1) = (c.height - 1) * c.width ∧
      nidx c (w - 1) (h - 1) = npix c - 1) ∧
    (c.pixelMap = .std → c.orient = .landscape →
      nidx c 0 0 = (c.height - 1) * c.width ∧ nidx c (w - 1) 0 = 0 ∧ nidx c 0 (h - 1) = npix c - 1 ∧
      nidx c (w - 1) (h - 1) = c.width - 1)

/-! ### Host accesses (20_memory.md, 43_controller_ops.md section 9) -/

/-- What the 32-bit registers read as (R245), lane by lane (R65), with no effect. -/
def Obligations.RegisterReadsGiveFields : Prop :=
  ∀ s : State, s.cfg.wf = true →
    let word := fun v : Nat => ((List.range 4).map fun k => BitVec.ofNat 8 (v / 2 ^ (8 * k)), s)
    let oor := if s.cfg.oorPolicy = .report then 1 else 0
    let strat := match s.cfg.strategy with | .direct => 0 | .shift => 1 | .lut => 2
    let ori := if s.cfg.orient = .landscape then 1 else 0
    let err := match s.lastErr with
      | .none => 0 | .transportTimeout => 1 | .invalidState => 2 | .illegalOp => 3 | .outOfRange => 4
    let state := match s.ctrl with | .uninit => 0 | .initializing => 1 | .ready => 2 | .rendering => 3 | .failed => 4
    s.hostRead 0x0 4 = word 0 ∧
    s.hostRead 0x4 4 = word (s.rstDone.toNat * 2 ^ 9 + s.torn.toNat * 2 ^ 8 + s.collide.toNat * 2 ^ 7 +
      err * 2 ^ 4 + state * 2 + s.busy.toNat) ∧
    s.hostRead 0x8 4 = word s.result.toNat ∧
    s.hostRead 0xC 4 = word (oor * 2 ^ 27 + strat * 2 ^ 25 + ori * 2 ^ 24 + (s.cfg.height - 1) * 2 ^ 12 +
      (s.cfg.width - 1))

/-- A byte of the framebuffer window (R167): 0 beyond `N`; `fb[i]` in `READY` with `BUSY = 0`; else a free value. An
aligned 32-bit read is four such bytes, the lowest first (R65): outside `READY` or while busy a free value of its own for
each byte below `N` (R69; log entry 7), and 0 for each byte from `N` on. -/
def Obligations.WindowReadsFramebuffer : Prop :=
  ∀ (s : State) (i : Nat), i < 2 ^ 21 →
    (fbLen s.cfg ≤ i → s.hostRead (0x200000 + i) 1 = ([0], s)) ∧
    (i < fbLen s.cfg → s.ctrl = .ready → s.busy = false → s.hostRead (0x200000 + i) 1 = ([s.fbByte i], s)) ∧
    (i < fbLen s.cfg → ¬ (s.ctrl = .ready ∧ s.busy = false) →
      s.hostRead (0x200000 + i) 1 = ([Config.windowByte s.draws], { s with draws := s.draws + 1 })) ∧
    (i % 4 = 0 → s.ctrl = .ready → s.busy = false →
      s.hostRead (0x200000 + i) 4 =
        ((List.range 4).map fun k => if i + k < fbLen s.cfg then s.fbByte (i + k) else 0, s)) ∧
    (i % 4 = 0 → ¬ (s.ctrl = .ready ∧ s.busy = false) →
      s.hostRead (0x200000 + i) 4 =
        ((List.range 4).map fun k => if i + k < fbLen s.cfg then Config.windowByte (s.draws + k) else 0,
          { s with draws := s.draws + min 4 (fbLen s.cfg - i) }))

/-- An access of a width or alignment R63 does not list (R64): as a read 0 in every lane, as a write ignored. -/
def Obligations.UnsupportedAccessIsInert : Prop :=
  ∀ (s : State) (off : HostOffset) (n : Nat) (v : CmdWord), s.cfg.wf = true → s.turn = .host →
    ¬ (n = 4 ∧ off.toNat % 4 = 0) →
    let h := { s.host with pc := s.host.pc + 1 }
    (s.hostOp = some (.write off n v) → step s = .next { s with turns := s.turns.tail, host := h }) ∧
    (s.hostOp = some (.read off n) → (0x200000 ≤ off.toNat → n ≠ 1) →
      step s = .next { s with
        turns := s.turns.tail, host := { h with reads := s.host.reads ++ [⟨off, List.replicate n 0⟩] } })

/-- A reserved offset reads as 0, and a write to a reserved offset, to `RESULT`, `CONFIG` or the window is ignored
(R62). -/
def Obligations.ReservedOffsetsAreInert : Prop :=
  ∀ (s : State) (off : HostOffset) (n : Nat) (v : CmdWord), s.cfg.wf = true → s.turn = .host →
    let h := { s.host with pc := s.host.pc + 1 }
    (0x8 ≤ off.toNat → s.hostOp = some (.write off n v) →
      step s = .next { s with turns := s.turns.tail, host := h }) ∧
    ((0x10 ≤ off.toNat ∧ off.toNat < 0x200000) ∨ 0x200000 + fbLen s.cfg ≤ off.toNat →
      s.hostOp = some (.read off n) →
      step s = .next { s with
        turns := s.turns.tail, host := { h with reads := s.host.reads ++ [⟨off, List.replicate n 0⟩] } })

/-- A host write of `STATUS` changes `COLLIDE` alone, and only with bit 7 set (R246). -/
def Obligations.StatusWriteClearsCollide : Prop :=
  ∀ (s : State) (v : CmdWord), s.cfg.wf = true → s.hostWrites 0x4#22 v →
    step s = .next { s with
      turns := s.turns.tail, host := { s.host with pc := s.host.pc + 1 }
      collide := if v.toNat / 2 ^ 7 % 2 = 1 then false else s.collide }

/-- A host read, at any offset and of any width, changes nothing of the block (R68): the host goes on, the lanes read
join the values it has read (R331), a 32-bit read of `STATUS` leaves its bit 0, `BUSY`, for `BRBUSY` (R106; log entry 10),
and the count of free values is that of the read (log entry 7). What the lanes are, `RegisterReadsGiveFields`,
`WindowReadsFramebuffer`, `UnsupportedAccessIsInert` and `ReservedOffsetsAreInert` say. -/
def Obligations.HostReadsHaveNoEffect : Prop :=
  ∀ (s : State) (off : HostOffset) (n : Nat), s.cfg.wf = true → s.turn = .host → s.hostOp = some (.read off n) →
    let r := s.hostRead off.toNat n
    r.1.length = n ∧
      step s = .next { s with
        turns := s.turns.tail, draws := r.2.draws
        host := { s.host with
          pc := s.host.pc + 1
          reads := s.host.reads ++ [⟨off, r.1⟩]
          lastBusy := if off = 0x4#22 ∧ n = 4 then s.busy else s.host.lastBusy } }

/-- The host program's own control flow (R106; its form is the model's, log entry 10): `BRBUSY` goes to its label if the
last 32-bit read of `STATUS` had bit 0 set and on otherwise, `HALT` ends the program, and neither touches the block; a
program that has halted or is past its end has no step, which is the fault `hostStuck` (log entry 16). -/
def Obligations.HostBranchesAndHalts : Prop :=
  ∀ s : State, s.cfg.wf = true → s.turn = .host →
    (∀ target, s.host.halted = false → s.host.program[s.host.pc]? = some (.brBusy target) →
      step s = .next { s with
        turns := s.turns.tail
        host := { s.host with pc := if s.host.lastBusy then target else s.host.pc + 1 } }) ∧
    (s.host.halted = false → s.host.program[s.host.pc]? = some .halt →
      step s = .next { s with turns := s.turns.tail, host := { s.host with halted := true } }) ∧
    (s.host.halted = true ∨ s.host.program.length ≤ s.host.pc → step s = .fault .hostStuck)

/-! ### Reset (70_reset_and_hazards.md, 10_state.md R48) -/

/-- Block reset at any time gives every piece of state the value R48 states, keeps the configuration and emits no
event. -/
def Obligations.BlockResetGivesResetValues : Prop :=
  ∀ s : State, s.cfg.wf = true → s.turn = .blockReset →
    ∃ t : State, step s = .next t ∧ t.cfg = s.cfg ∧
      t.ctrl = .uninit ∧ t.busy = false ∧ t.lastErr = .none ∧ t.collide = false ∧ t.torn = false ∧
      t.rstDone = false ∧ t.result = 0 ∧ t.lutValid = false ∧
      t.lineDc = .z ∧ t.lineCs = .z ∧ t.lineRst = .z ∧ t.phase = .idle ∧ t.idx = 0 ∧ t.txnOpen = false ∧
      t.tcount = 0 ∧ t.trace = [] ∧ t.statusWord = 0 ∧
      ∀ i, t.fbByte i = Config.fbPowerOn (s.epoch + 1) i

/-- The state right after reset meets the invariant, for every well-formed configuration and for `State.reset`. -/
def Obligations.InvHoldsAtReset : Prop :=
  (∀ c : Config, c.wf = true → BlockInv (State.resetOf c)) ∧ BlockInv State.reset

/-! ### Whole-machine rules -/

/-- Every step, of the host, the sequencer or block reset, keeps the invariant, whose parts Sys2Proof/Safety.lean names
with their rules (R5, R24, R29, R33, R34, R44, R131, R198, R221). Its part `noUop` is the model's own (log entry 11). -/
def Obligations.StepKeepsInv : Prop :=
  ∀ s t : State, BlockInv s → step s = .next t → BlockInv t

/-- From a state that meets the invariant no step is refused or breaks a precondition: it answers a next state, or the
agent whose turn it is has no step (R11, R131, R164, R198). -/
def Obligations.NoFaultFromInv : Prop :=
  ∀ s : State, BlockInv s →
    (∃ t, step s = .next t) ∨
    (step s = .fault .sequencerStuck ∧ s.turn = .sequencer ∧ s.phase = .idle) ∨
    (step s = .fault .hostStuck ∧ s.turn = .host ∧ s.hostOp = none)

/-- `CTRL` changes only on R23's transitions. -/
def Obligations.CtrlChangesOnlyAsTabled : Prop :=
  ∀ s t : State, BlockInv s → step s = .next t → t.ctrl ≠ s.ctrl →
    (s.turn = .blockReset ∧ t.ctrl = .uninit) ∨
    (s.ctrl = .uninit ∧ s.executes 0x1#4 ∧ t.ctrl = .initializing) ∨
    (s.turn = .sequencer ∧ s.ctrl = .initializing ∧ s.phase = .initBuild ∧ t.ctrl = .ready ∧ t.lastErr = .none) ∨
    (s.turn = .sequencer ∧ s.ctrl = .initializing ∧ s.phase = .initSeq ∧ t.ctrl = .failed ∧
      t.lastErr = .transportTimeout) ∨
    (s.ctrl = .ready ∧ s.executes 0x4#4 ∧ t.ctrl = .rendering) ∨
    (s.turn = .sequencer ∧ s.ctrl = .rendering ∧ t.ctrl = .ready ∧ t.phase = .idle ∧
      (t.lastErr = .none ∨ t.lastErr = .transportTimeout))

/-- Block reset is the only way out of `FAILED` and the only way back to `UNINIT`, so the panel reset pulse runs at
most once between two block resets (R302, R131). -/
def Obligations.OnlyBlockResetLeavesFailed : Prop :=
  ∀ s t : State, BlockInv s → step s = .next t → s.turn ≠ .blockReset →
    (s.ctrl = .failed → t.ctrl = .failed) ∧
    (s.ctrl ≠ .uninit → t.ctrl ≠ .uninit) ∧
    (s.rstDone = true → t.rstDone = true ∧ t.phase ≠ .initReset)

/-- `COLLIDE` is set by a command write while busy, which has no other effect on the block; it is cleared by a write of
`STATUS` with bit 7 or by block reset, and changed by nothing else; and no step of the sequencer depends on it (R27). -/
def Obligations.CollideChangesOnlyByHost : Prop :=
  (∀ s t : State, step s = .next t →
    (s.turn = .blockReset → t.collide = false) ∧
    (s.turn ≠ .blockReset → t.collide = true →
      s.collide = true ∨ (s.busy = true ∧ ∃ w, s.hostWrites 0x0#22 w)) ∧
    (s.busy = true → (∃ w, s.hostWrites 0x0#22 w) →
      ∃ h : HostAgent, t = { s with collide := true, turns := s.turns.tail, host := h }) ∧
    ((∃ v, s.hostWrites 0x4#22 v ∧ v.getLsbD 7 = true) → t.collide = false) ∧
    (s.turn ≠ .blockReset → s.collide = true → t.collide = false →
      ∃ v, s.hostWrites 0x4#22 v ∧ v.getLsbD 7 = true)) ∧
  (∀ (s : State) (b : Bool), s.turn = .sequencer →
    match step s with
    | .next t => step { s with collide := b } = .next { t with collide := b }
    | .fault f => step { s with collide := b } = .fault f
    | .refused r => step { s with collide := b } = .refused r)

/-- `TORN` changes only where a `DISPLAY` ends: 1 with `TRANSPORT_TIMEOUT`, 0 with `NONE`; block reset clears it
(R28, R48). -/
def Obligations.TornTellsHowDisplayEnded : Prop :=
  ∀ s t : State, BlockInv s → step s = .next t →
    if s.turn = .blockReset then t.torn = false
    else if s.ctrl = .rendering ∧ t.ctrl = .ready then
      (t.lastErr = .transportTimeout ∧ t.torn = true) ∨ (t.lastErr = .none ∧ t.torn = false)
    else t.torn = s.torn

/-- `LAST_ERR` and `BUSY` change together with the end of a command: only the sequencer's return to `IDLE` writes
`LAST_ERR`, and it clears `BUSY` (R272, R24). -/
def Obligations.LastErrWrittenOnlyAtCommandEnd : Prop :=
  ∀ s t : State, BlockInv s → step s = .next t → s.turn ≠ .blockReset →
    (t.lastErr ≠ s.lastErr → s.turn = .sequencer ∧ s.busy = true ∧ t.busy = false ∧ t.phase = .idle) ∧
    (s.busy = true → t.busy = false → s.turn = .sequencer ∧ t.phase = .idle ∧ t.idx = 0) ∧
    (s.busy = false → t.busy = true → ∃ w, s.hostWrites 0x0#22 w ∧ t.latch = w ∧ t.phase = .exec)

/-- Only an `XLATE` executed in `READY` writes `RESULT`, and block reset (R30). -/
def Obligations.ResultWrittenOnlyByXlate : Prop :=
  ∀ s t : State, BlockInv s → step s = .next t → t.result ≠ s.result →
    (s.turn = .blockReset ∧ t.result = 0) ∨ (s.ctrl = .ready ∧ s.executes 0x5#4)

/-- Only a `CLEAR` or `SET_PIXEL` executed in `READY` writes the framebuffer: not the host, not `INIT`, not `DISPLAY`
(R33, R71); block reset leaves its contents unspecified. -/
def Obligations.FramebufferWrittenOnlyByPixelCommands : Prop :=
  ∀ s t : State, BlockInv s → step s = .next t → s.turn ≠ .blockReset → (∃ a, t.fbByte a ≠ s.fbByte a) →
    s.ctrl = .ready ∧ (s.executes 0x2#4 ∨ s.executes 0x3#4)

/-- The lookup tables are written by the `INIT_BUILD` step alone, and by block reset (R34, R196). -/
def Obligations.TablesWrittenOnlyByInitBuild : Prop :=
  ∀ s t : State, BlockInv s → step s = .next t → s.turn ≠ .blockReset →
    (t.lutIndex ≠ s.lutIndex ∨ t.lutMask ≠ s.lutMask ∨ t.lutValid ≠ s.lutValid) →
    s.turn = .sequencer ∧ s.phase = .initBuild ∧ s.cfg.strategy = .lut

/-- The trace only grows, by the sequencer alone, until block reset; the configuration never changes (R45, R5). -/
def Obligations.TraceOnlyGrows : Prop :=
  ∀ s t : State, step s = .next t →
    t.cfg = s.cfg ∧
    (s.turn = .blockReset → t.trace = []) ∧
    (s.turn = .host → t.trace = s.trace) ∧
    (s.turn = .sequencer → ∃ es, t.trace = s.trace ++ es)

/-- The host's step leaves the sequencer's work alone: while a command runs, no host access changes anything of the
block but `COLLIDE` (R68, R276). -/
def Obligations.HostCannotDisturbRunningCommand : Prop :=
  ∀ s t : State, step s = .next t → s.turn = .host → s.busy = true →
    ∃ (c : Bool) (d : Nat) (h : HostAgent),
      t = { s with collide := c, draws := d, turns := s.turns.tail, host := h }

/-! ### Whole commands -/

/-- `INIT` with every wait drawing `READY` (R225, R228), under every interleaving with host steps (R247; log entry 9):
when the sequencer has moved `3 + L` times, the trace of the phases in order, and `READY`. The schedule holds no block
reset, and the host, where it moves, is not stuck. -/
def Obligations.InitRunsToReady : Prop :=
  ∀ s : State, BlockInv s → s.phase = .exec → opField s.latch = 0x1#4 → s.ctrl = .uninit →
    let L := s.cfg.initSeq.length
    let n := stepsToMoves s.turns (3 + L)
    AllWaitsReady s (2 * (L - 1)) → RunsThrough s n →
    ∃ t : State, Host.Core.run Sys2Proof.core n s = .next t ∧
      t.ctrl = .ready ∧ t.lastErr = .none ∧ t.busy = false ∧ t.phase = .idle ∧ t.rstDone = true ∧ t.fb = s.fb ∧
      t.trace = [.line .cs (csInactive s.cfg), .line .dc (dcCommand s.cfg), .line .rst (rstLevel s.cfg false),
        .line .rst (rstLevel s.cfg true), .delay s.cfg.tRstHold, .line .rst (rstLevel s.cfg false),
        .delay s.cfg.tRstRecover] ++ tableEvents s.cfg s.cfg.initSeq

/-- `DISPLAY` with every wait drawing `READY` (R237, R238, R240), under every interleaving with host steps (R247; log
entry 9): when the sequencer has moved `1 + Ls + (N + 2) + Lc` times, it has appended exactly the frame-start table, the
whole framebuffer in ascending order as one transaction, and the frame-commit table. The schedule holds no block reset,
and the host, where it moves, is not stuck. -/
def Obligations.DisplayStreamsWholeFrame : Prop :=
  ∀ s : State, BlockInv s → s.phase = .exec → opField s.latch = 0x4#4 → s.ctrl = .ready →
    let Ls := s.cfg.frameStartSeq.length
    let Lc := s.cfg.frameCommitSeq.length
    let N := fbLen s.cfg
    let n := stepsToMoves s.turns (1 + Ls + (N + 2) + Lc)
    AllWaitsReady s (2 * (Ls - 1) + (N + 1) + 2 * (Lc - 1)) → RunsThrough s n →
    ∃ t : State, Host.Core.run Sys2Proof.core n s = .next t ∧
      t.ctrl = .ready ∧ t.torn = false ∧ t.lastErr = .none ∧ t.busy = false ∧ t.phase = .idle ∧ t.fb = s.fb ∧
      t.trace = s.trace ++ (tableEvents s.cfg s.cfg.frameStartSeq ++
        ([.line .dc (dcData s.cfg), .line .cs (csActive s.cfg)] ++
          (List.range N).map (fun i => .byte (s.fbByte i)) ++
          [.done, .line .cs (csInactive s.cfg)]) ++
        tableEvents s.cfg s.cfg.frameCommitSeq)
end

