-- ==== Sys2Proof/Laws/State.lean ====
section
/-! SUPPORT. What each elementary update does to each field of State, so that no proof unfolds a record update. -/

namespace Sys2Proof.Machine

/-! ### `State.emit` -/

@[simp] theorem State.emit_cfg (s : State) (e : Event) : (s.emit e).cfg = s.cfg := rfl
@[simp] theorem State.emit_latch (s : State) (e : Event) : (s.emit e).latch = s.latch := rfl
@[simp] theorem State.emit_ctrl (s : State) (e : Event) : (s.emit e).ctrl = s.ctrl := rfl
@[simp] theorem State.emit_busy (s : State) (e : Event) : (s.emit e).busy = s.busy := rfl
@[simp] theorem State.emit_lastErr (s : State) (e : Event) : (s.emit e).lastErr = s.lastErr := rfl
@[simp] theorem State.emit_collide (s : State) (e : Event) : (s.emit e).collide = s.collide := rfl
@[simp] theorem State.emit_torn (s : State) (e : Event) : (s.emit e).torn = s.torn := rfl
@[simp] theorem State.emit_rstDone (s : State) (e : Event) : (s.emit e).rstDone = s.rstDone := rfl
@[simp] theorem State.emit_result (s : State) (e : Event) : (s.emit e).result = s.result := rfl
@[simp] theorem State.emit_fb (s : State) (e : Event) : (s.emit e).fb = s.fb := rfl
@[simp] theorem State.emit_lutIndex (s : State) (e : Event) : (s.emit e).lutIndex = s.lutIndex := rfl
@[simp] theorem State.emit_lutMask (s : State) (e : Event) : (s.emit e).lutMask = s.lutMask := rfl
@[simp] theorem State.emit_lutValid (s : State) (e : Event) : (s.emit e).lutValid = s.lutValid := rfl
@[simp] theorem State.emit_lineDc (s : State) (e : Event) : (s.emit e).lineDc = s.lineDc := rfl
@[simp] theorem State.emit_lineCs (s : State) (e : Event) : (s.emit e).lineCs = s.lineCs := rfl
@[simp] theorem State.emit_lineRst (s : State) (e : Event) : (s.emit e).lineRst = s.lineRst := rfl
@[simp] theorem State.emit_phase (s : State) (e : Event) : (s.emit e).phase = s.phase := rfl
@[simp] theorem State.emit_idx (s : State) (e : Event) : (s.emit e).idx = s.idx := rfl
@[simp] theorem State.emit_tcount (s : State) (e : Event) : (s.emit e).tcount = s.tcount := rfl
@[simp] theorem State.emit_txnOpen (s : State) (e : Event) : (s.emit e).txnOpen = s.txnOpen := rfl
@[simp] theorem State.emit_trace (s : State) (e : Event) : (s.emit e).trace = s.trace ++ [e] := rfl
@[simp] theorem State.emit_uop (s : State) (e : Event) : (s.emit e).uop = s.uop := rfl
@[simp] theorem State.emit_busAnswers (s : State) (e : Event) : (s.emit e).busAnswers = s.busAnswers := rfl
@[simp] theorem State.emit_draws (s : State) (e : Event) : (s.emit e).draws = s.draws := rfl
@[simp] theorem State.emit_epoch (s : State) (e : Event) : (s.emit e).epoch = s.epoch := rfl
@[simp] theorem State.emit_turns (s : State) (e : Event) : (s.emit e).turns = s.turns := rfl
@[simp] theorem State.emit_host (s : State) (e : Event) : (s.emit e).host = s.host := rfl

/-! ### `State.driveLine` -/

@[simp] theorem State.driveLine_cfg (s : State) (r : Role) (l : Level) : (s.driveLine r l).cfg = s.cfg := by cases r <;> rfl
@[simp] theorem State.driveLine_latch (s : State) (r : Role) (l : Level) : (s.driveLine r l).latch = s.latch := by cases r <;> rfl
@[simp] theorem State.driveLine_ctrl (s : State) (r : Role) (l : Level) : (s.driveLine r l).ctrl = s.ctrl := by cases r <;> rfl
@[simp] theorem State.driveLine_busy (s : State) (r : Role) (l : Level) : (s.driveLine r l).busy = s.busy := by cases r <;> rfl
@[simp] theorem State.driveLine_lastErr (s : State) (r : Role) (l : Level) : (s.driveLine r l).lastErr = s.lastErr := by cases r <;> rfl
@[simp] theorem State.driveLine_collide (s : State) (r : Role) (l : Level) : (s.driveLine r l).collide = s.collide := by cases r <;> rfl
@[simp] theorem State.driveLine_torn (s : State) (r : Role) (l : Level) : (s.driveLine r l).torn = s.torn := by cases r <;> rfl
@[simp] theorem State.driveLine_rstDone (s : State) (r : Role) (l : Level) : (s.driveLine r l).rstDone = s.rstDone := by cases r <;> rfl
@[simp] theorem State.driveLine_result (s : State) (r : Role) (l : Level) : (s.driveLine r l).result = s.result := by cases r <;> rfl
@[simp] theorem State.driveLine_fb (s : State) (r : Role) (l : Level) : (s.driveLine r l).fb = s.fb := by cases r <;> rfl
@[simp] theorem State.driveLine_lutIndex (s : State) (r : Role) (l : Level) : (s.driveLine r l).lutIndex = s.lutIndex := by cases r <;> rfl
@[simp] theorem State.driveLine_lutMask (s : State) (r : Role) (l : Level) : (s.driveLine r l).lutMask = s.lutMask := by cases r <;> rfl
@[simp] theorem State.driveLine_lutValid (s : State) (r : Role) (l : Level) : (s.driveLine r l).lutValid = s.lutValid := by cases r <;> rfl
@[simp] theorem State.driveLine_lineDc (s : State) (r : Role) (l : Level) : (s.driveLine r l).lineDc = if r = .dc then l else s.lineDc := by cases r <;> rfl
@[simp] theorem State.driveLine_lineCs (s : State) (r : Role) (l : Level) : (s.driveLine r l).lineCs = if r = .cs then l else s.lineCs := by cases r <;> rfl
@[simp] theorem State.driveLine_lineRst (s : State) (r : Role) (l : Level) : (s.driveLine r l).lineRst = if r = .rst then l else s.lineRst := by cases r <;> rfl
@[simp] theorem State.driveLine_phase (s : State) (r : Role) (l : Level) : (s.driveLine r l).phase = s.phase := by cases r <;> rfl
@[simp] theorem State.driveLine_idx (s : State) (r : Role) (l : Level) : (s.driveLine r l).idx = s.idx := by cases r <;> rfl
@[simp] theorem State.driveLine_tcount (s : State) (r : Role) (l : Level) : (s.driveLine r l).tcount = s.tcount := by cases r <;> rfl
@[simp] theorem State.driveLine_txnOpen (s : State) (r : Role) (l : Level) : (s.driveLine r l).txnOpen = s.txnOpen := by cases r <;> rfl
@[simp] theorem State.driveLine_trace (s : State) (r : Role) (l : Level) : (s.driveLine r l).trace = s.trace ++ [.line r l] := by cases r <;> rfl
@[simp] theorem State.driveLine_uop (s : State) (r : Role) (l : Level) : (s.driveLine r l).uop = s.uop := by cases r <;> rfl
@[simp] theorem State.driveLine_busAnswers (s : State) (r : Role) (l : Level) : (s.driveLine r l).busAnswers = s.busAnswers := by cases r <;> rfl
@[simp] theorem State.driveLine_draws (s : State) (r : Role) (l : Level) : (s.driveLine r l).draws = s.draws := by cases r <;> rfl
@[simp] theorem State.driveLine_epoch (s : State) (r : Role) (l : Level) : (s.driveLine r l).epoch = s.epoch := by cases r <;> rfl
@[simp] theorem State.driveLine_turns (s : State) (r : Role) (l : Level) : (s.driveLine r l).turns = s.turns := by cases r <;> rfl
@[simp] theorem State.driveLine_host (s : State) (r : Role) (l : Level) : (s.driveLine r l).host = s.host := by cases r <;> rfl

/-! ### `State.goto` -/

@[simp] theorem State.goto_cfg (s : State) (p : Phase) (i : SeqIdx) : (s.goto p i).cfg = s.cfg := rfl
@[simp] theorem State.goto_latch (s : State) (p : Phase) (i : SeqIdx) : (s.goto p i).latch = s.latch := rfl
@[simp] theorem State.goto_ctrl (s : State) (p : Phase) (i : SeqIdx) : (s.goto p i).ctrl = s.ctrl := rfl
@[simp] theorem State.goto_busy (s : State) (p : Phase) (i : SeqIdx) : (s.goto p i).busy = s.busy := rfl
@[simp] theorem State.goto_lastErr (s : State) (p : Phase) (i : SeqIdx) : (s.goto p i).lastErr = s.lastErr := rfl
@[simp] theorem State.goto_collide (s : State) (p : Phase) (i : SeqIdx) : (s.goto p i).collide = s.collide := rfl
@[simp] theorem State.goto_torn (s : State) (p : Phase) (i : SeqIdx) : (s.goto p i).torn = s.torn := rfl
@[simp] theorem State.goto_rstDone (s : State) (p : Phase) (i : SeqIdx) : (s.goto p i).rstDone = s.rstDone := rfl
@[simp] theorem State.goto_result (s : State) (p : Phase) (i : SeqIdx) : (s.goto p i).result = s.result := rfl
@[simp] theorem State.goto_fb (s : State) (p : Phase) (i : SeqIdx) : (s.goto p i).fb = s.fb := rfl
@[simp] theorem State.goto_lutIndex (s : State) (p : Phase) (i : SeqIdx) : (s.goto p i).lutIndex = s.lutIndex := rfl
@[simp] theorem State.goto_lutMask (s : State) (p : Phase) (i : SeqIdx) : (s.goto p i).lutMask = s.lutMask := rfl
@[simp] theorem State.goto_lutValid (s : State) (p : Phase) (i : SeqIdx) : (s.goto p i).lutValid = s.lutValid := rfl
@[simp] theorem State.goto_lineDc (s : State) (p : Phase) (i : SeqIdx) : (s.goto p i).lineDc = s.lineDc := rfl
@[simp] theorem State.goto_lineCs (s : State) (p : Phase) (i : SeqIdx) : (s.goto p i).lineCs = s.lineCs := rfl
@[simp] theorem State.goto_lineRst (s : State) (p : Phase) (i : SeqIdx) : (s.goto p i).lineRst = s.lineRst := rfl
@[simp] theorem State.goto_phase (s : State) (p : Phase) (i : SeqIdx) : (s.goto p i).phase = p := rfl
@[simp] theorem State.goto_idx (s : State) (p : Phase) (i : SeqIdx) : (s.goto p i).idx = i := rfl
@[simp] theorem State.goto_tcount (s : State) (p : Phase) (i : SeqIdx) : (s.goto p i).tcount = s.tcount := rfl
@[simp] theorem State.goto_txnOpen (s : State) (p : Phase) (i : SeqIdx) : (s.goto p i).txnOpen = s.txnOpen := rfl
@[simp] theorem State.goto_trace (s : State) (p : Phase) (i : SeqIdx) : (s.goto p i).trace = s.trace := rfl
@[simp] theorem State.goto_uop (s : State) (p : Phase) (i : SeqIdx) : (s.goto p i).uop = s.uop := rfl
@[simp] theorem State.goto_busAnswers (s : State) (p : Phase) (i : SeqIdx) : (s.goto p i).busAnswers = s.busAnswers := rfl
@[simp] theorem State.goto_draws (s : State) (p : Phase) (i : SeqIdx) : (s.goto p i).draws = s.draws := rfl
@[simp] theorem State.goto_epoch (s : State) (p : Phase) (i : SeqIdx) : (s.goto p i).epoch = s.epoch := rfl
@[simp] theorem State.goto_turns (s : State) (p : Phase) (i : SeqIdx) : (s.goto p i).turns = s.turns := rfl
@[simp] theorem State.goto_host (s : State) (p : Phase) (i : SeqIdx) : (s.goto p i).host = s.host := rfl

/-! ### `State.finish` -/

@[simp] theorem State.finish_cfg (s : State) (c : ErrCode) : (s.finish c).cfg = s.cfg := rfl
@[simp] theorem State.finish_latch (s : State) (c : ErrCode) : (s.finish c).latch = s.latch := rfl
@[simp] theorem State.finish_ctrl (s : State) (c : ErrCode) : (s.finish c).ctrl = s.ctrl := rfl
@[simp] theorem State.finish_busy (s : State) (c : ErrCode) : (s.finish c).busy = false := rfl
@[simp] theorem State.finish_lastErr (s : State) (c : ErrCode) : (s.finish c).lastErr = c := rfl
@[simp] theorem State.finish_collide (s : State) (c : ErrCode) : (s.finish c).collide = s.collide := rfl
@[simp] theorem State.finish_torn (s : State) (c : ErrCode) : (s.finish c).torn = s.torn := rfl
@[simp] theorem State.finish_rstDone (s : State) (c : ErrCode) : (s.finish c).rstDone = s.rstDone := rfl
@[simp] theorem State.finish_result (s : State) (c : ErrCode) : (s.finish c).result = s.result := rfl
@[simp] theorem State.finish_fb (s : State) (c : ErrCode) : (s.finish c).fb = s.fb := rfl
@[simp] theorem State.finish_lutIndex (s : State) (c : ErrCode) : (s.finish c).lutIndex = s.lutIndex := rfl
@[simp] theorem State.finish_lutMask (s : State) (c : ErrCode) : (s.finish c).lutMask = s.lutMask := rfl
@[simp] theorem State.finish_lutValid (s : State) (c : ErrCode) : (s.finish c).lutValid = s.lutValid := rfl
@[simp] theorem State.finish_lineDc (s : State) (c : ErrCode) : (s.finish c).lineDc = s.lineDc := rfl
@[simp] theorem State.finish_lineCs (s : State) (c : ErrCode) : (s.finish c).lineCs = s.lineCs := rfl
@[simp] theorem State.finish_lineRst (s : State) (c : ErrCode) : (s.finish c).lineRst = s.lineRst := rfl
@[simp] theorem State.finish_phase (s : State) (c : ErrCode) : (s.finish c).phase = .idle := rfl
@[simp] theorem State.finish_idx (s : State) (c : ErrCode) : (s.finish c).idx = 0 := rfl
@[simp] theorem State.finish_tcount (s : State) (c : ErrCode) : (s.finish c).tcount = s.tcount := rfl
@[simp] theorem State.finish_txnOpen (s : State) (c : ErrCode) : (s.finish c).txnOpen = s.txnOpen := rfl
@[simp] theorem State.finish_trace (s : State) (c : ErrCode) : (s.finish c).trace = s.trace := rfl
@[simp] theorem State.finish_uop (s : State) (c : ErrCode) : (s.finish c).uop = s.uop := rfl
@[simp] theorem State.finish_busAnswers (s : State) (c : ErrCode) : (s.finish c).busAnswers = s.busAnswers := rfl
@[simp] theorem State.finish_draws (s : State) (c : ErrCode) : (s.finish c).draws = s.draws := rfl
@[simp] theorem State.finish_epoch (s : State) (c : ErrCode) : (s.finish c).epoch = s.epoch := rfl
@[simp] theorem State.finish_turns (s : State) (c : ErrCode) : (s.finish c).turns = s.turns := rfl
@[simp] theorem State.finish_host (s : State) (c : ErrCode) : (s.finish c).host = s.host := rfl

/-! ### `State.waited` -/

@[simp] theorem State.waited_cfg (s : State) (n : Nat) : (s.waited n).cfg = s.cfg := rfl
@[simp] theorem State.waited_latch (s : State) (n : Nat) : (s.waited n).latch = s.latch := rfl
@[simp] theorem State.waited_ctrl (s : State) (n : Nat) : (s.waited n).ctrl = s.ctrl := rfl
@[simp] theorem State.waited_busy (s : State) (n : Nat) : (s.waited n).busy = s.busy := rfl
@[simp] theorem State.waited_lastErr (s : State) (n : Nat) : (s.waited n).lastErr = s.lastErr := rfl
@[simp] theorem State.waited_collide (s : State) (n : Nat) : (s.waited n).collide = s.collide := rfl
@[simp] theorem State.waited_torn (s : State) (n : Nat) : (s.waited n).torn = s.torn := rfl
@[simp] theorem State.waited_rstDone (s : State) (n : Nat) : (s.waited n).rstDone = s.rstDone := rfl
@[simp] theorem State.waited_result (s : State) (n : Nat) : (s.waited n).result = s.result := rfl
@[simp] theorem State.waited_fb (s : State) (n : Nat) : (s.waited n).fb = s.fb := rfl
@[simp] theorem State.waited_lutIndex (s : State) (n : Nat) : (s.waited n).lutIndex = s.lutIndex := rfl
@[simp] theorem State.waited_lutMask (s : State) (n : Nat) : (s.waited n).lutMask = s.lutMask := rfl
@[simp] theorem State.waited_lutValid (s : State) (n : Nat) : (s.waited n).lutValid = s.lutValid := rfl
@[simp] theorem State.waited_lineDc (s : State) (n : Nat) : (s.waited n).lineDc = s.lineDc := rfl
@[simp] theorem State.waited_lineCs (s : State) (n : Nat) : (s.waited n).lineCs = s.lineCs := rfl
@[simp] theorem State.waited_lineRst (s : State) (n : Nat) : (s.waited n).lineRst = s.lineRst := rfl
@[simp] theorem State.waited_phase (s : State) (n : Nat) : (s.waited n).phase = s.phase := rfl
@[simp] theorem State.waited_idx (s : State) (n : Nat) : (s.waited n).idx = s.idx := rfl
@[simp] theorem State.waited_tcount (s : State) (n : Nat) : (s.waited n).tcount = s.waitTicks n := rfl
@[simp] theorem State.waited_txnOpen (s : State) (n : Nat) : (s.waited n).txnOpen = s.txnOpen := rfl
@[simp] theorem State.waited_trace (s : State) (n : Nat) : (s.waited n).trace = s.trace := rfl
@[simp] theorem State.waited_uop (s : State) (n : Nat) : (s.waited n).uop = s.uop := rfl
@[simp] theorem State.waited_busAnswers (s : State) (n : Nat) : (s.waited n).busAnswers = s.busAnswers.tail := rfl
@[simp] theorem State.waited_draws (s : State) (n : Nat) : (s.waited n).draws = s.draws + 1 := rfl
@[simp] theorem State.waited_epoch (s : State) (n : Nat) : (s.waited n).epoch = s.epoch := rfl
@[simp] theorem State.waited_turns (s : State) (n : Nat) : (s.waited n).turns = s.turns := rfl
@[simp] theorem State.waited_host (s : State) (n : Nat) : (s.waited n).host = s.host := rfl

/-! ### `State.writeFb` -/

@[simp] theorem State.writeFb_cfg (s : State) (i : Nat) (v : Byte) : (s.writeFb i v).cfg = s.cfg := rfl
@[simp] theorem State.writeFb_latch (s : State) (i : Nat) (v : Byte) : (s.writeFb i v).latch = s.latch := rfl
@[simp] theorem State.writeFb_ctrl (s : State) (i : Nat) (v : Byte) : (s.writeFb i v).ctrl = s.ctrl := rfl
@[simp] theorem State.writeFb_busy (s : State) (i : Nat) (v : Byte) : (s.writeFb i v).busy = s.busy := rfl
@[simp] theorem State.writeFb_lastErr (s : State) (i : Nat) (v : Byte) : (s.writeFb i v).lastErr = s.lastErr := rfl
@[simp] theorem State.writeFb_collide (s : State) (i : Nat) (v : Byte) : (s.writeFb i v).collide = s.collide := rfl
@[simp] theorem State.writeFb_torn (s : State) (i : Nat) (v : Byte) : (s.writeFb i v).torn = s.torn := rfl
@[simp] theorem State.writeFb_rstDone (s : State) (i : Nat) (v : Byte) : (s.writeFb i v).rstDone = s.rstDone := rfl
@[simp] theorem State.writeFb_result (s : State) (i : Nat) (v : Byte) : (s.writeFb i v).result = s.result := rfl
@[simp] theorem State.writeFb_fb (s : State) (i : Nat) (v : Byte) : (s.writeFb i v).fb = s.fb.write i v := rfl
@[simp] theorem State.writeFb_lutIndex (s : State) (i : Nat) (v : Byte) : (s.writeFb i v).lutIndex = s.lutIndex := rfl
@[simp] theorem State.writeFb_lutMask (s : State) (i : Nat) (v : Byte) : (s.writeFb i v).lutMask = s.lutMask := rfl
@[simp] theorem State.writeFb_lutValid (s : State) (i : Nat) (v : Byte) : (s.writeFb i v).lutValid = s.lutValid := rfl
@[simp] theorem State.writeFb_lineDc (s : State) (i : Nat) (v : Byte) : (s.writeFb i v).lineDc = s.lineDc := rfl
@[simp] theorem State.writeFb_lineCs (s : State) (i : Nat) (v : Byte) : (s.writeFb i v).lineCs = s.lineCs := rfl
@[simp] theorem State.writeFb_lineRst (s : State) (i : Nat) (v : Byte) : (s.writeFb i v).lineRst = s.lineRst := rfl
@[simp] theorem State.writeFb_phase (s : State) (i : Nat) (v : Byte) : (s.writeFb i v).phase = s.phase := rfl
@[simp] theorem State.writeFb_idx (s : State) (i : Nat) (v : Byte) : (s.writeFb i v).idx = s.idx := rfl
@[simp] theorem State.writeFb_tcount (s : State) (i : Nat) (v : Byte) : (s.writeFb i v).tcount = s.tcount := rfl
@[simp] theorem State.writeFb_txnOpen (s : State) (i : Nat) (v : Byte) : (s.writeFb i v).txnOpen = s.txnOpen := rfl
@[simp] theorem State.writeFb_trace (s : State) (i : Nat) (v : Byte) : (s.writeFb i v).trace = s.trace := rfl
@[simp] theorem State.writeFb_uop (s : State) (i : Nat) (v : Byte) : (s.writeFb i v).uop = s.uop := rfl
@[simp] theorem State.writeFb_busAnswers (s : State) (i : Nat) (v : Byte) : (s.writeFb i v).busAnswers = s.busAnswers := rfl
@[simp] theorem State.writeFb_draws (s : State) (i : Nat) (v : Byte) : (s.writeFb i v).draws = s.draws := rfl
@[simp] theorem State.writeFb_epoch (s : State) (i : Nat) (v : Byte) : (s.writeFb i v).epoch = s.epoch := rfl
@[simp] theorem State.writeFb_turns (s : State) (i : Nat) (v : Byte) : (s.writeFb i v).turns = s.turns := rfl
@[simp] theorem State.writeFb_host (s : State) (i : Nat) (v : Byte) : (s.writeFb i v).host = s.host := rfl

/-! ### `State.fillFb` -/

@[simp] theorem State.fillFb_cfg (s : State) (c : Bool) : (s.fillFb c).cfg = s.cfg := rfl
@[simp] theorem State.fillFb_latch (s : State) (c : Bool) : (s.fillFb c).latch = s.latch := rfl
@[simp] theorem State.fillFb_ctrl (s : State) (c : Bool) : (s.fillFb c).ctrl = s.ctrl := rfl
@[simp] theorem State.fillFb_busy (s : State) (c : Bool) : (s.fillFb c).busy = s.busy := rfl
@[simp] theorem State.fillFb_lastErr (s : State) (c : Bool) : (s.fillFb c).lastErr = s.lastErr := rfl
@[simp] theorem State.fillFb_collide (s : State) (c : Bool) : (s.fillFb c).collide = s.collide := rfl
@[simp] theorem State.fillFb_torn (s : State) (c : Bool) : (s.fillFb c).torn = s.torn := rfl
@[simp] theorem State.fillFb_rstDone (s : State) (c : Bool) : (s.fillFb c).rstDone = s.rstDone := rfl
@[simp] theorem State.fillFb_result (s : State) (c : Bool) : (s.fillFb c).result = s.result := rfl
@[simp] theorem State.fillFb_fb (s : State) (c : Bool) : (s.fillFb c).fb = s.fb.fill (fbLen s.cfg) (fillByte c) := rfl
@[simp] theorem State.fillFb_lutIndex (s : State) (c : Bool) : (s.fillFb c).lutIndex = s.lutIndex := rfl
@[simp] theorem State.fillFb_lutMask (s : State) (c : Bool) : (s.fillFb c).lutMask = s.lutMask := rfl
@[simp] theorem State.fillFb_lutValid (s : State) (c : Bool) : (s.fillFb c).lutValid = s.lutValid := rfl
@[simp] theorem State.fillFb_lineDc (s : State) (c : Bool) : (s.fillFb c).lineDc = s.lineDc := rfl
@[simp] theorem State.fillFb_lineCs (s : State) (c : Bool) : (s.fillFb c).lineCs = s.lineCs := rfl
@[simp] theorem State.fillFb_lineRst (s : State) (c : Bool) : (s.fillFb c).lineRst = s.lineRst := rfl
@[simp] theorem State.fillFb_phase (s : State) (c : Bool) : (s.fillFb c).phase = s.phase := rfl
@[simp] theorem State.fillFb_idx (s : State) (c : Bool) : (s.fillFb c).idx = s.idx := rfl
@[simp] theorem State.fillFb_tcount (s : State) (c : Bool) : (s.fillFb c).tcount = s.tcount := rfl
@[simp] theorem State.fillFb_txnOpen (s : State) (c : Bool) : (s.fillFb c).txnOpen = s.txnOpen := rfl
@[simp] theorem State.fillFb_trace (s : State) (c : Bool) : (s.fillFb c).trace = s.trace := rfl
@[simp] theorem State.fillFb_uop (s : State) (c : Bool) : (s.fillFb c).uop = s.uop := rfl
@[simp] theorem State.fillFb_busAnswers (s : State) (c : Bool) : (s.fillFb c).busAnswers = s.busAnswers := rfl
@[simp] theorem State.fillFb_draws (s : State) (c : Bool) : (s.fillFb c).draws = s.draws := rfl
@[simp] theorem State.fillFb_epoch (s : State) (c : Bool) : (s.fillFb c).epoch = s.epoch := rfl
@[simp] theorem State.fillFb_turns (s : State) (c : Bool) : (s.fillFb c).turns = s.turns := rfl
@[simp] theorem State.fillFb_host (s : State) (c : Bool) : (s.fillFb c).host = s.host := rfl

/-! ### `State.buildLut` -/

@[simp] theorem State.buildLut_cfg (s : State) : (s.buildLut).cfg = s.cfg := rfl
@[simp] theorem State.buildLut_latch (s : State) : (s.buildLut).latch = s.latch := rfl
@[simp] theorem State.buildLut_ctrl (s : State) : (s.buildLut).ctrl = s.ctrl := rfl
@[simp] theorem State.buildLut_busy (s : State) : (s.buildLut).busy = s.busy := rfl
@[simp] theorem State.buildLut_lastErr (s : State) : (s.buildLut).lastErr = s.lastErr := rfl
@[simp] theorem State.buildLut_collide (s : State) : (s.buildLut).collide = s.collide := rfl
@[simp] theorem State.buildLut_torn (s : State) : (s.buildLut).torn = s.torn := rfl
@[simp] theorem State.buildLut_rstDone (s : State) : (s.buildLut).rstDone = s.rstDone := rfl
@[simp] theorem State.buildLut_result (s : State) : (s.buildLut).result = s.result := rfl
@[simp] theorem State.buildLut_fb (s : State) : (s.buildLut).fb = s.fb := rfl
@[simp] theorem State.buildLut_lutIndex (s : State) : (s.buildLut).lutIndex = builtIndexTable s.cfg := rfl
@[simp] theorem State.buildLut_lutMask (s : State) : (s.buildLut).lutMask = builtMaskTable s.cfg := rfl
@[simp] theorem State.buildLut_lutValid (s : State) : (s.buildLut).lutValid = true := rfl
@[simp] theorem State.buildLut_lineDc (s : State) : (s.buildLut).lineDc = s.lineDc := rfl
@[simp] theorem State.buildLut_lineCs (s : State) : (s.buildLut).lineCs = s.lineCs := rfl
@[simp] theorem State.buildLut_lineRst (s : State) : (s.buildLut).lineRst = s.lineRst := rfl
@[simp] theorem State.buildLut_phase (s : State) : (s.buildLut).phase = s.phase := rfl
@[simp] theorem State.buildLut_idx (s : State) : (s.buildLut).idx = s.idx := rfl
@[simp] theorem State.buildLut_tcount (s : State) : (s.buildLut).tcount = s.tcount := rfl
@[simp] theorem State.buildLut_txnOpen (s : State) : (s.buildLut).txnOpen = s.txnOpen := rfl
@[simp] theorem State.buildLut_trace (s : State) : (s.buildLut).trace = s.trace := rfl
@[simp] theorem State.buildLut_uop (s : State) : (s.buildLut).uop = s.uop := rfl
@[simp] theorem State.buildLut_busAnswers (s : State) : (s.buildLut).busAnswers = s.busAnswers := rfl
@[simp] theorem State.buildLut_draws (s : State) : (s.buildLut).draws = s.draws := rfl
@[simp] theorem State.buildLut_epoch (s : State) : (s.buildLut).epoch = s.epoch := rfl
@[simp] theorem State.buildLut_turns (s : State) : (s.buildLut).turns = s.turns := rfl
@[simp] theorem State.buildLut_host (s : State) : (s.buildLut).host = s.host := rfl

/-! ### `State.collision` -/

@[simp] theorem State.collision_cfg (s : State) : (s.collision).cfg = s.cfg := rfl
@[simp] theorem State.collision_latch (s : State) : (s.collision).latch = s.latch := rfl
@[simp] theorem State.collision_ctrl (s : State) : (s.collision).ctrl = s.ctrl := rfl
@[simp] theorem State.collision_busy (s : State) : (s.collision).busy = s.busy := rfl
@[simp] theorem State.collision_lastErr (s : State) : (s.collision).lastErr = s.lastErr := rfl
@[simp] theorem State.collision_collide (s : State) : (s.collision).collide = true := rfl
@[simp] theorem State.collision_torn (s : State) : (s.collision).torn = s.torn := rfl
@[simp] theorem State.collision_rstDone (s : State) : (s.collision).rstDone = s.rstDone := rfl
@[simp] theorem State.collision_result (s : State) : (s.collision).result = s.result := rfl
@[simp] theorem State.collision_fb (s : State) : (s.collision).fb = s.fb := rfl
@[simp] theorem State.collision_lutIndex (s : State) : (s.collision).lutIndex = s.lutIndex := rfl
@[simp] theorem State.collision_lutMask (s : State) : (s.collision).lutMask = s.lutMask := rfl
@[simp] theorem State.collision_lutValid (s : State) : (s.collision).lutValid = s.lutValid := rfl
@[simp] theorem State.collision_lineDc (s : State) : (s.collision).lineDc = s.lineDc := rfl
@[simp] theorem State.collision_lineCs (s : State) : (s.collision).lineCs = s.lineCs := rfl
@[simp] theorem State.collision_lineRst (s : State) : (s.collision).lineRst = s.lineRst := rfl
@[simp] theorem State.collision_phase (s : State) : (s.collision).phase = s.phase := rfl
@[simp] theorem State.collision_idx (s : State) : (s.collision).idx = s.idx := rfl
@[simp] theorem State.collision_tcount (s : State) : (s.collision).tcount = s.tcount := rfl
@[simp] theorem State.collision_txnOpen (s : State) : (s.collision).txnOpen = s.txnOpen := rfl
@[simp] theorem State.collision_trace (s : State) : (s.collision).trace = s.trace := rfl
@[simp] theorem State.collision_uop (s : State) : (s.collision).uop = s.uop := rfl
@[simp] theorem State.collision_busAnswers (s : State) : (s.collision).busAnswers = s.busAnswers := rfl
@[simp] theorem State.collision_draws (s : State) : (s.collision).draws = s.draws := rfl
@[simp] theorem State.collision_epoch (s : State) : (s.collision).epoch = s.epoch := rfl
@[simp] theorem State.collision_turns (s : State) : (s.collision).turns = s.turns := rfl
@[simp] theorem State.collision_host (s : State) : (s.collision).host = s.host := rfl

/-! ### `State.hostAdvance` -/

@[simp] theorem State.hostAdvance_cfg (s : State) : (s.hostAdvance).cfg = s.cfg := rfl
@[simp] theorem State.hostAdvance_latch (s : State) : (s.hostAdvance).latch = s.latch := rfl
@[simp] theorem State.hostAdvance_ctrl (s : State) : (s.hostAdvance).ctrl = s.ctrl := rfl
@[simp] theorem State.hostAdvance_busy (s : State) : (s.hostAdvance).busy = s.busy := rfl
@[simp] theorem State.hostAdvance_lastErr (s : State) : (s.hostAdvance).lastErr = s.lastErr := rfl
@[simp] theorem State.hostAdvance_collide (s : State) : (s.hostAdvance).collide = s.collide := rfl
@[simp] theorem State.hostAdvance_torn (s : State) : (s.hostAdvance).torn = s.torn := rfl
@[simp] theorem State.hostAdvance_rstDone (s : State) : (s.hostAdvance).rstDone = s.rstDone := rfl
@[simp] theorem State.hostAdvance_result (s : State) : (s.hostAdvance).result = s.result := rfl
@[simp] theorem State.hostAdvance_fb (s : State) : (s.hostAdvance).fb = s.fb := rfl
@[simp] theorem State.hostAdvance_lutIndex (s : State) : (s.hostAdvance).lutIndex = s.lutIndex := rfl
@[simp] theorem State.hostAdvance_lutMask (s : State) : (s.hostAdvance).lutMask = s.lutMask := rfl
@[simp] theorem State.hostAdvance_lutValid (s : State) : (s.hostAdvance).lutValid = s.lutValid := rfl
@[simp] theorem State.hostAdvance_lineDc (s : State) : (s.hostAdvance).lineDc = s.lineDc := rfl
@[simp] theorem State.hostAdvance_lineCs (s : State) : (s.hostAdvance).lineCs = s.lineCs := rfl
@[simp] theorem State.hostAdvance_lineRst (s : State) : (s.hostAdvance).lineRst = s.lineRst := rfl
@[simp] theorem State.hostAdvance_phase (s : State) : (s.hostAdvance).phase = s.phase := rfl
@[simp] theorem State.hostAdvance_idx (s : State) : (s.hostAdvance).idx = s.idx := rfl
@[simp] theorem State.hostAdvance_tcount (s : State) : (s.hostAdvance).tcount = s.tcount := rfl
@[simp] theorem State.hostAdvance_txnOpen (s : State) : (s.hostAdvance).txnOpen = s.txnOpen := rfl
@[simp] theorem State.hostAdvance_trace (s : State) : (s.hostAdvance).trace = s.trace := rfl
@[simp] theorem State.hostAdvance_uop (s : State) : (s.hostAdvance).uop = s.uop := rfl
@[simp] theorem State.hostAdvance_busAnswers (s : State) : (s.hostAdvance).busAnswers = s.busAnswers := rfl
@[simp] theorem State.hostAdvance_draws (s : State) : (s.hostAdvance).draws = s.draws := rfl
@[simp] theorem State.hostAdvance_epoch (s : State) : (s.hostAdvance).epoch = s.epoch := rfl
@[simp] theorem State.hostAdvance_turns (s : State) : (s.hostAdvance).turns = s.turns := rfl
@[simp] theorem State.hostAdvance_host (s : State) : (s.hostAdvance).host = { s.host with pc := s.host.pc + 1 } := rfl

/-! ### `State.turnTaken` -/

@[simp] theorem State.turnTaken_cfg (s : State) : (s.turnTaken).cfg = s.cfg := rfl
@[simp] theorem State.turnTaken_latch (s : State) : (s.turnTaken).latch = s.latch := rfl
@[simp] theorem State.turnTaken_ctrl (s : State) : (s.turnTaken).ctrl = s.ctrl := rfl
@[simp] theorem State.turnTaken_busy (s : State) : (s.turnTaken).busy = s.busy := rfl
@[simp] theorem State.turnTaken_lastErr (s : State) : (s.turnTaken).lastErr = s.lastErr := rfl
@[simp] theorem State.turnTaken_collide (s : State) : (s.turnTaken).collide = s.collide := rfl
@[simp] theorem State.turnTaken_torn (s : State) : (s.turnTaken).torn = s.torn := rfl
@[simp] theorem State.turnTaken_rstDone (s : State) : (s.turnTaken).rstDone = s.rstDone := rfl
@[simp] theorem State.turnTaken_result (s : State) : (s.turnTaken).result = s.result := rfl
@[simp] theorem State.turnTaken_fb (s : State) : (s.turnTaken).fb = s.fb := rfl
@[simp] theorem State.turnTaken_lutIndex (s : State) : (s.turnTaken).lutIndex = s.lutIndex := rfl
@[simp] theorem State.turnTaken_lutMask (s : State) : (s.turnTaken).lutMask = s.lutMask := rfl
@[simp] theorem State.turnTaken_lutValid (s : State) : (s.turnTaken).lutValid = s.lutValid := rfl
@[simp] theorem State.turnTaken_lineDc (s : State) : (s.turnTaken).lineDc = s.lineDc := rfl
@[simp] theorem State.turnTaken_lineCs (s : State) : (s.turnTaken).lineCs = s.lineCs := rfl
@[simp] theorem State.turnTaken_lineRst (s : State) : (s.turnTaken).lineRst = s.lineRst := rfl
@[simp] theorem State.turnTaken_phase (s : State) : (s.turnTaken).phase = s.phase := rfl
@[simp] theorem State.turnTaken_idx (s : State) : (s.turnTaken).idx = s.idx := rfl
@[simp] theorem State.turnTaken_tcount (s : State) : (s.turnTaken).tcount = s.tcount := rfl
@[simp] theorem State.turnTaken_txnOpen (s : State) : (s.turnTaken).txnOpen = s.txnOpen := rfl
@[simp] theorem State.turnTaken_trace (s : State) : (s.turnTaken).trace = s.trace := rfl
@[simp] theorem State.turnTaken_uop (s : State) : (s.turnTaken).uop = s.uop := rfl
@[simp] theorem State.turnTaken_busAnswers (s : State) : (s.turnTaken).busAnswers = s.busAnswers := rfl
@[simp] theorem State.turnTaken_draws (s : State) : (s.turnTaken).draws = s.draws := rfl
@[simp] theorem State.turnTaken_epoch (s : State) : (s.turnTaken).epoch = s.epoch := rfl
@[simp] theorem State.turnTaken_turns (s : State) : (s.turnTaken).turns = s.turns.tail := rfl
@[simp] theorem State.turnTaken_host (s : State) : (s.turnTaken).host = s.host := rfl

end Sys2Proof.Machine
end

