-- ==== Sys2Proof/Laws/Ops.lean ====
section
/-! SUPPORT. What the shared operations do: the laws of memory, and each composite operation as one record update. -/

namespace Sys2Proof.Machine

/-! ### Memory: read after write, and the canonical form -/

theorem Memory.read_write (m : Memory) (a b : Nat) (v : Byte) :
    (m.write a v).read b = if b = a then some v else m.read b := by
  induction m with
  | nil => by_cases h : b = a <;> simp [Memory.write, Memory.read, h]
  | cons c m ih =>
    obtain ⟨x, w⟩ := c
    simp only [Memory.write]
    split
    · by_cases h : b = a <;> simp [Memory.read, h]
    · split
      · rename_i h; subst h
        by_cases h : b = a <;> simp [Memory.read, h]
      · by_cases hx : b = x
        · subst hx; rename_i hne; simp [Memory.read, Ne.symm hne]
        · simp [Memory.read, hx, ih]

/-- All addresses of a memory lie above `a`. -/
def Memory.Above (m : Memory) (a : Nat) : Prop := ∀ c ∈ m, a < c.1

theorem Memory.wf_cons (a : Nat) (v : Byte) (m : Memory) :
    Memory.wf ((a, v) :: m) = true ↔ Memory.Above m a ∧ Memory.wf m = true := by
  induction m generalizing a v with
  | nil => simp [Memory.wf, Memory.Above]
  | cons c m ih =>
    obtain ⟨b, w⟩ := c
    have hb := ih b w
    simp only [Memory.wf, Bool.and_eq_true, decide_eq_true_eq, Memory.Above, List.mem_cons, forall_eq_or_imp]
    constructor
    · rintro ⟨h, hwf⟩
      exact ⟨⟨h, fun c hc => lt_trans h ((hb.mp hwf).1 c hc)⟩, hwf⟩
    · rintro ⟨⟨h, -⟩, hwf⟩; exact ⟨h, hwf⟩

theorem Memory.write_above {m : Memory} {a b : Nat} {v : Byte} (h : m.Above a) (hab : a < b) :
    (m.write b v).Above a := by
  induction m with
  | nil => simpa [Memory.write, Memory.Above] using hab
  | cons c m ih =>
    obtain ⟨x, w⟩ := c
    have hm : Memory.Above m a := fun c hc => h c (List.mem_cons_of_mem _ hc)
    have hx : a < x := h (x, w) (List.mem_cons_self ..)
    simp only [Memory.write]
    split
    · intro c hc; simp only [List.mem_cons] at hc
      rcases hc with rfl | rfl | hc
      exacts [hab, hx, hm c hc]
    · split
      · intro c hc; simp only [List.mem_cons] at hc
        rcases hc with rfl | hc
        exacts [hab, hm c hc]
      · intro c hc; simp only [List.mem_cons] at hc
        rcases hc with rfl | hc
        exacts [hx, ih hm c hc]

/-- A write keeps the canonical form. -/
theorem Memory.write_wf {m : Memory} (a : Nat) (v : Byte) (h : m.wf = true) : (m.write a v).wf = true := by
  induction m with
  | nil => rfl
  | cons c m ih =>
    obtain ⟨x, w⟩ := c
    obtain ⟨hab, hm⟩ := (Memory.wf_cons x w m).mp h
    simp only [Memory.write]
    split
    · rename_i hlt
      rw [Memory.wf_cons]
      refine ⟨fun c hc => ?_, h⟩
      rcases List.mem_cons.mp hc with rfl | hc
      exacts [hlt, lt_trans hlt (hab c hc)]
    · split
      · rename_i heq; subst heq; exact (Memory.wf_cons ..).mpr ⟨hab, hm⟩
      · rename_i h1 h2
        exact (Memory.wf_cons ..).mpr ⟨Memory.write_above hab (by omega), ih hm⟩

theorem Memory.read_append (m₁ m₂ : Memory) (a : Nat) :
    Memory.read (m₁ ++ m₂) a = (m₁.read a).or (m₂.read a) := by
  induction m₁ with
  | nil => simp [Memory.read]
  | cons c m ih =>
    obtain ⟨x, w⟩ := c
    by_cases h : a = x <;> simp [Memory.read, h, ih]

theorem Memory.read_run (n : Nat) (v : Byte) (a : Nat) :
    Memory.read ((List.range n).map fun b => (b, v)) a = if a < n then some v else none := by
  induction n with
  | zero => rfl
  | succ n ih =>
    rw [List.range_succ, List.map_append, Memory.read_append, ih]
    by_cases h : a < n
    · simp [h, Nat.lt_succ_of_lt h]
    · by_cases h' : a = n <;> simp [Memory.read, h', h]
      omega

theorem Memory.read_filter (m : Memory) (n a : Nat) :
    Memory.read (m.filter fun c => decide (n ≤ c.1)) a = if n ≤ a then m.read a else none := by
  induction m with
  | nil => simp [Memory.read]
  | cons c m ih =>
    obtain ⟨x, w⟩ := c
    by_cases hx : n ≤ x
    · by_cases h : a = x
      · subst h; simp [Memory.read, hx]
      · simp [Memory.read, hx, h, ih]
    · by_cases h : a = x
      · subst h; simp [hx, ih]
      · simp [hx, h, ih, Memory.read]

/-- A fill writes every address below its bound and no other. -/
theorem Memory.read_fill (m : Memory) (n : Nat) (v : Byte) (a : Nat) :
    (m.fill n v).read a = if a < n then some v else m.read a := by
  rw [Memory.fill, Memory.read_append, Memory.read_run, Memory.read_filter]
  by_cases h : a < n
  · simp [h]
  · simp [h, not_lt.mp h]

theorem Memory.wf_iff_pairwise (m : Memory) : m.wf = true ↔ m.Pairwise fun c d => c.1 < d.1 := by
  induction m with
  | nil => simp [Memory.wf]
  | cons c m ih =>
    obtain ⟨x, w⟩ := c
    rw [Memory.wf_cons, List.pairwise_cons, ih]
    rfl

/-- A fill keeps the canonical form. -/
theorem Memory.fill_wf {m : Memory} (n : Nat) (v : Byte) (h : m.wf = true) : (m.fill n v).wf = true := by
  rw [Memory.wf_iff_pairwise] at h ⊢
  rw [Memory.fill, List.pairwise_append]
  refine ⟨?_, h.filter _, ?_⟩
  · rw [List.pairwise_map]
    exact List.pairwise_lt_range
  · intro c hc d hd
    obtain ⟨a, ha, rfl⟩ := List.mem_map.mp hc
    have hd := (List.mem_filter.mp hd).2
    have ha := List.mem_range.mp ha
    simp only [decide_eq_true_eq] at hd
    show a < d.1
    omega

/-- `State.reset`'s memory has the canonical form. -/
theorem State.reset_fb_wf : State.reset.fb.wf = true := rfl

/-! ### What a framebuffer byte reads as -/

theorem State.fbByte_writeFb (s : State) (i j : Nat) (v : Byte) :
    (s.writeFb i v).fbByte j = if j = i then v else s.fbByte j := by
  by_cases h : j = i <;> simp [State.fbByte, State.writeFb, Memory.read_write, h]

theorem State.fbByte_fillFb (s : State) (c : Bool) (j : Nat) :
    (s.fillFb c).fbByte j = if j < fbLen s.cfg then fillByte c else s.fbByte j := by
  by_cases h : j < fbLen s.cfg <;> simp [State.fbByte, State.fillFb, Memory.read_fill, h]

/-! ### The bus's answers -/

@[simp] theorem State.answer_zero (s : State) : s.answer 0 = s.nextAnswer := by
  cases h : s.busAnswers <;> simp [State.answer, State.nextAnswer, h]

@[simp] theorem State.answer_waited (s : State) (n k : Nat) : (s.waited n).answer k = s.answer (k + 1) := by
  cases h : s.busAnswers <;> simp [State.answer, h, Nat.add_assoc, Nat.add_comm 1 k]

/-! ### Composite operations as one update -/

theorem State.openTxn_eq (s : State) (dc : Level) :
    s.openTxn dc = { s with
      lineDc := dc, lineCs := csActive s.cfg, txnOpen := true
      trace := s.trace ++ [.line .dc dc, .line .cs (csActive s.cfg)] } := by
  simp [State.openTxn, State.driveLine]

theorem State.closeTxn_eq (s : State) :
    s.closeTxn = { s with
      lineCs := csInactive s.cfg, txnOpen := false, trace := s.trace ++ [.line .cs (csInactive s.cfg)] } := rfl

theorem State.abortTxn_eq (s : State) :
    s.abortTxn = { s with
      lineCs := csInactive s.cfg, txnOpen := false
      trace := s.trace ++ [.abort, .line .cs (csInactive s.cfg)] } := by
  simp [State.abortTxn, State.closeTxn, State.emit, State.driveLine]

theorem State.driveInactive_eq (s : State) :
    s.driveInactive = { s with
      lineCs := csInactive s.cfg, lineDc := dcCommand s.cfg, lineRst := rstLevel s.cfg false
      trace := s.trace ++
        [.line .cs (csInactive s.cfg), .line .dc (dcCommand s.cfg), .line .rst (rstLevel s.cfg false)] } := by
  simp [State.driveInactive, State.driveLine]

theorem State.pulseReset_eq (s : State) :
    s.pulseReset = { s with
      lineRst := rstLevel s.cfg false, rstDone := true, phase := .initSeq, idx := 0
      trace := s.trace ++
        [.line .rst (rstLevel s.cfg true), .delay s.cfg.tRstHold, .line .rst (rstLevel s.cfg false),
          .delay s.cfg.tRstRecover] } := by
  simp [State.pulseReset, State.setRst, State.emit, State.driveLine, State.goto]

theorem State.openBuffer_eq (s : State) :
    s.openBuffer = { s with
      lineDc := dcData s.cfg, lineCs := csActive s.cfg, txnOpen := true, phase := .dispBuf, idx := 0
      trace := s.trace ++ [.line .dc (dcData s.cfg), .line .cs (csActive s.cfg)] } := by
  simp [State.openBuffer, State.openTxn_eq, State.goto]

/-- The events of a single-byte transaction up to its first wait. -/
def openEvents (c : Config) (dc : Level) : List Event := [.line .dc dc, .line .cs (csActive c)]

theorem State.waited_ready {s : State} (n : Nat) (h : s.nextAnswer = .ready) :
    s.waited n = { s with
      tcount := min n (Config.readyTick s.draws), busAnswers := s.busAnswers.tail, draws := s.draws + 1 } := by
  simp [State.waited, State.waitTicks, h]

theorem State.waited_timeout {s : State} (n : Nat) (h : s.nextAnswer = .timeout) :
    s.waited n = { s with tcount := n, busAnswers := s.busAnswers.tail, draws := s.draws + 1 } := by
  simp [State.waited, State.waitTicks, h]

/-- The waits of a transaction, by the answers the bus gives from its opening on. -/
theorem State.openTxn_nextAnswer (s : State) (dc : Level) : (s.openTxn dc).nextAnswer = s.answer 0 := by
  rw [State.openTxn_eq, State.answer_zero]; rfl

theorem State.afterAccept_nextAnswer (s : State) (dc : Level) (n : Nat) (e : Event) :
    (((s.openTxn dc).waited n).emit e).nextAnswer = s.answer 1 := by
  rw [← State.answer_zero, show ((s.openTxn dc).waited n |>.emit e).answer 0 = ((s.openTxn dc).waited n).answer 0 from rfl,
    State.answer_waited, State.openTxn_eq]
  rfl

/-- The two waits of a transaction draw `READY` (R123): the byte and `DONE` are recorded. -/
theorem State.sendByte_ready (s : State) (dc : Level) (b : Byte) (h₀ : s.answer 0 = .ready) (h₁ : s.answer 1 = .ready) :
    s.sendByte dc b = (.ready, { s with
      lineDc := dc, lineCs := csInactive s.cfg, txnOpen := false
      tcount := min s.cfg.tComplete (Config.readyTick (s.draws + 1))
      busAnswers := s.busAnswers.tail.tail, draws := s.draws + 2
      trace := s.trace ++ (openEvents s.cfg dc ++ [.byte b, .done, .line .cs (csInactive s.cfg)]) }) := by
  have e₀ := (s.openTxn_nextAnswer dc).trans h₀
  have e₁ := (s.afterAccept_nextAnswer dc s.cfg.tAccept (.byte b)).trans h₁
  simp only [State.sendByte, e₀, e₁, State.waited_ready _ e₁]
  simp [State.openTxn_eq, State.closeTxn_eq, State.emit, openEvents]

/-- The accept wait draws `TIMEOUT` (R123): no byte is recorded. -/
theorem State.sendByte_acceptTimeout (s : State) (dc : Level) (b : Byte) (h₀ : s.answer 0 = .timeout) :
    s.sendByte dc b = (.timeout, { s with
      lineDc := dc, lineCs := csInactive s.cfg, txnOpen := false, tcount := s.cfg.tAccept
      busAnswers := s.busAnswers.tail, draws := s.draws + 1
      trace := s.trace ++ (openEvents s.cfg dc ++ [.abort, .line .cs (csInactive s.cfg)]) }) := by
  have e₀ := (s.openTxn_nextAnswer dc).trans h₀
  simp only [State.sendByte, e₀, State.waited_timeout _ e₀]
  simp [State.openTxn_eq, State.abortTxn_eq, openEvents]

/-- The completion wait draws `TIMEOUT` (R123): the byte is recorded, then the abort. -/
theorem State.sendByte_completeTimeout (s : State) (dc : Level) (b : Byte) (h₀ : s.answer 0 = .ready)
    (h₁ : s.answer 1 = .timeout) :
    s.sendByte dc b = (.timeout, { s with
      lineDc := dc, lineCs := csInactive s.cfg, txnOpen := false, tcount := s.cfg.tComplete
      busAnswers := s.busAnswers.tail.tail, draws := s.draws + 2
      trace := s.trace ++ (openEvents s.cfg dc ++ [.byte b, .abort, .line .cs (csInactive s.cfg)]) }) := by
  have e₀ := (s.openTxn_nextAnswer dc).trans h₀
  have e₁ := (s.afterAccept_nextAnswer dc s.cfg.tAccept (.byte b)).trans h₁
  simp only [State.sendByte, e₀, e₁, State.waited_timeout _ e₁]
  simp [State.openTxn_eq, State.abortTxn_eq, State.emit, openEvents]

/-- The three ways a single-byte transaction can end. -/
theorem State.answers_cases (s : State) :
    (s.answer 0 = .ready ∧ s.answer 1 = .ready) ∨ s.answer 0 = .timeout ∨
      (s.answer 0 = .ready ∧ s.answer 1 = .timeout) := by
  cases s.answer 0 <;> cases s.answer 1 <;> simp

end Sys2Proof.Machine
end

