-- ==== Sys2Proof/Laws/PerInstr.lean ====
section
/-! SUPPORT. Statements made per instruction, one lemma per constructor. -/

namespace Sys2Proof.Laws.RowWord

/-- A row of spec/opcode_table.json: where its word comes from, its `mask` and its `match`. -/
structure Row where
  source : Source
  mask : BitVec 32
  value : BitVec 32

/-- The bits of a code, numbered as the opcode table numbers them. -/
def bits : Code → BitVec 32
  | .host w => w
  | .table e => e.setWidth 32
  | .micro e => e.setWidth 32

/-- The opcode table's row of each instruction. -/
def row : Instr → Row
  | .nop => ⟨.host, 0xF0000000#32, 0x00000000#32⟩
  | .init => ⟨.host, 0xF0000000#32, 0x10000000#32⟩
  | .clear _ => ⟨.host, 0xF0000000#32, 0x20000000#32⟩
  | .setPixel _ _ _ => ⟨.host, 0xF0000000#32, 0x30000000#32⟩
  | .display => ⟨.host, 0xF0000000#32, 0x40000000#32⟩
  | .xlate _ _ => ⟨.host, 0xF0000000#32, 0x50000000#32⟩
  | .illegal6 => ⟨.host, 0xF0000000#32, 0x60000000#32⟩
  | .illegal7 => ⟨.host, 0xF0000000#32, 0x70000000#32⟩
  | .illegal8 => ⟨.host, 0xF0000000#32, 0x80000000#32⟩
  | .illegal9 => ⟨.host, 0xF0000000#32, 0x90000000#32⟩
  | .illegalA => ⟨.host, 0xF0000000#32, 0xA0000000#32⟩
  | .illegalB => ⟨.host, 0xF0000000#32, 0xB0000000#32⟩
  | .illegalC => ⟨.host, 0xF0000000#32, 0xC0000000#32⟩
  | .illegalD => ⟨.host, 0xF0000000#32, 0xD0000000#32⟩
  | .illegalE => ⟨.host, 0xF0000000#32, 0xE0000000#32⟩
  | .illegalF => ⟨.host, 0xF0000000#32, 0xF0000000#32⟩
  | .endSeq => ⟨.table, 0x0000FFFF#32, 0x00000000#32⟩
  | .cmd _ => ⟨.table, 0x0000FF00#32, 0x00001000#32⟩
  | .data _ => ⟨.table, 0x0000FF00#32, 0x00002000#32⟩
  | .resetPulse => ⟨.micro, 0x0000FFFF#32, 0x00008000#32⟩
  | .setRstLevel _ => ⟨.micro, 0x0000FFFE#32, 0x00009000#32⟩
  | .sendBuffer => ⟨.micro, 0x0000FFFF#32, 0x0000A000#32⟩
  | .lutBuild => ⟨.micro, 0x0000FFFF#32, 0x0000B000#32⟩
  | .fbFill _ => ⟨.micro, 0x0000FFFE#32, 0x0000C000#32⟩
  | .fbSetbit => ⟨.micro, 0x0000FFFF#32, 0x0000D000#32⟩

/-- The encoded word comes from its row's source and matches the row's fixed bits. -/
def Statement (i : Instr) : Prop :=
  (encode i).source = (row i).source ∧ bits (encode i) &&& (row i).mask = (row i).value

/-- The operand fields of a host command word lie below its operation. -/
theorem hostWord_top (op : BitVec 4) (c : Bool) (y x : Coord) :
    hostWord op c y x &&& 0xF0000000#32 = op.setWidth 32 <<< 28 := by
  refine BitVec.eq_of_getLsbD_eq fun k hk => ?_
  simp only [hostWord, BitVec.getLsbD_and, BitVec.getLsbD_or, BitVec.getLsbD_shiftLeft, BitVec.getLsbD_setWidth]
  interval_cases k <;> simp [BitVec.getLsbD_of_ge]

theorem nop : Statement .nop := ⟨rfl, by decide⟩

theorem init : Statement .init := ⟨rfl, by decide⟩

theorem clear (c : Bool) : Statement (.clear c) := ⟨rfl, hostWord_top _ _ _ _⟩

theorem setPixel (x : Coord) (y : Coord) (c : Bool) : Statement (.setPixel x y c) := ⟨rfl, hostWord_top _ _ _ _⟩

theorem display : Statement .display := ⟨rfl, by decide⟩

theorem xlate (x : Coord) (y : Coord) : Statement (.xlate x y) := ⟨rfl, hostWord_top _ _ _ _⟩

theorem illegal6 : Statement .illegal6 := ⟨rfl, by decide⟩

theorem illegal7 : Statement .illegal7 := ⟨rfl, by decide⟩

theorem illegal8 : Statement .illegal8 := ⟨rfl, by decide⟩

theorem illegal9 : Statement .illegal9 := ⟨rfl, by decide⟩

theorem illegalA : Statement .illegalA := ⟨rfl, by decide⟩

theorem illegalB : Statement .illegalB := ⟨rfl, by decide⟩

theorem illegalC : Statement .illegalC := ⟨rfl, by decide⟩

theorem illegalD : Statement .illegalD := ⟨rfl, by decide⟩

theorem illegalE : Statement .illegalE := ⟨rfl, by decide⟩

theorem illegalF : Statement .illegalF := ⟨rfl, by decide⟩

theorem endSeq : Statement .endSeq := ⟨rfl, by decide⟩

theorem cmd (b : Byte) : Statement (.cmd b) := ⟨rfl, by revert b; decide⟩

theorem data (b : Byte) : Statement (.data b) := ⟨rfl, by revert b; decide⟩

theorem resetPulse : Statement .resetPulse := ⟨rfl, by decide⟩

theorem setRstLevel (a : Bool) : Statement (.setRstLevel a) := ⟨rfl, by revert a; decide⟩

theorem sendBuffer : Statement .sendBuffer := ⟨rfl, by decide⟩

theorem lutBuild : Statement .lutBuild := ⟨rfl, by decide⟩

theorem fbFill (c : Bool) : Statement (.fbFill c) := ⟨rfl, by revert c; decide⟩

theorem fbSetbit : Statement .fbSetbit := ⟨rfl, by decide⟩

end Sys2Proof.Laws.RowWord
end

