-- ==== Sys2Proof/Laws/Step.lean ====
section
/-! SUPPORT. What a step can be: who moves, what it comes to, and that no instruction refuses. -/

namespace Sys2Proof.Machine

/-! ### The turn -/

theorem State.issue_host {s : State} (h : s.turn = .host) : s.issue = s.turnTaken.hostIssue := by
  simp [State.issue, h]

theorem State.issue_sequencer {s : State} (h : s.turn = .sequencer) : s.issue = s.turnTaken.sequencerIssue := by
  simp [State.issue, h]

theorem State.issue_blockReset {s : State} (h : s.turn = .blockReset) : s.issue = .done s.turnTaken.blockReset := by
  simp [State.issue, h]

/-! ### The step -/

theorem step_of_done {s t : State} (hw : s.cfg.wf = true) (h : s.issue = .done t) : step s = .next t := by
  simp [step, hw, h]

theorem step_of_stop {s : State} {f : Fault} (hw : s.cfg.wf = true) (h : s.issue = .stop f) : step s = .fault f := by
  simp [step, hw, h]

theorem step_of_run {s t : State} {i : Instr} {b : Bool} (hw : s.cfg.wf = true) (h : s.issue = .run i b t) :
    step s = afterRun b (exec i t) := by
  simp [step, hw, h]

theorem step_illFormed {s : State} (hw : s.cfg.wf = false) : step s = .refused .illFormedConfig := by
  simp [step, hw]

theorem afterRun_next {b : Bool} {o : Host.Outcome State Fault Refusal} {t : State} (h : afterRun b o = .next t) :
    ∃ u, o = .next u ∧ t = if b then u.buildDone else u := by
  cases o <;> simp [afterRun] at h
  exact ⟨_, rfl, h.symm⟩

/-- Inversion of a step that answers a next state. -/
theorem step_next {s t : State} (h : step s = .next t) :
    s.cfg.wf = true ∧
      (s.issue = .done t ∨
        ∃ i b u v, s.issue = .run i b u ∧ exec i u = .next v ∧ t = if b then v.buildDone else v) := by
  cases hw : s.cfg.wf with
  | false => rw [step_illFormed hw] at h; cases h
  | true =>
    refine ⟨rfl, ?_⟩
    cases hi : s.issue with
    | done u => rw [step_of_done hw hi] at h; cases h; exact .inl rfl
    | stop f => rw [step_of_stop hw hi] at h; cases h
    | run i b u =>
      rw [step_of_run hw hi] at h
      obtain ⟨v, hv, ht⟩ := afterRun_next h
      exact .inr ⟨i, b, u, v, rfl, hv, ht⟩

/-! ### The host's accesses -/

theorem State.readWindowByte_state (s : State) (i : Nat) : ∃ d, (s.readWindowByte i).2 = { s with draws := d } := by
  unfold State.readWindowByte
  split
  · exact ⟨s.draws, rfl⟩
  · split
    · exact ⟨s.draws, rfl⟩
    · exact ⟨_, rfl⟩

/-- A window read leaves everything but the count of free values, and returns one lane a byte. -/
theorem State.readWindow_frame (n : Nat) : ∀ (s : State) (i : Nat),
    (∃ d, (s.readWindow i n).2 = { s with draws := d }) ∧ (s.readWindow i n).1.length = n := by
  induction n with
  | zero => exact fun s i => ⟨⟨s.draws, rfl⟩, rfl⟩
  | succ n ih =>
    intro s i
    obtain ⟨d, hd⟩ := s.readWindowByte_state i
    obtain ⟨⟨d', hd'⟩, hl⟩ := ih (s.readWindowByte i).2 (i + 1)
    refine ⟨⟨d', ?_⟩, by simp [State.readWindow, hl]⟩
    show ((s.readWindowByte i).2.readWindow (i + 1) n).2 = _
    rw [hd', hd]

/-- A host read leaves everything but the count of free values, and returns one lane a byte (R68). -/
theorem State.hostRead_frame (s : State) (off n : Nat) :
    (∃ d, (s.hostRead off n).2 = { s with draws := d }) ∧ (s.hostRead off n).1.length = n := by
  unfold State.hostRead
  split
  · split
    · rename_i h
      have hn : n = 4 := by simpa using (Bool.and_eq_true_iff.mp h).1
      exact ⟨⟨s.draws, rfl⟩, by simp [lanesOfWord, hn]⟩
    · exact ⟨⟨s.draws, rfl⟩, by simp⟩
  · split
    · exact State.readWindow_frame n s _
    · exact ⟨⟨s.draws, rfl⟩, by simp⟩

/-- What a window read gives does not depend on the schedule or the host. -/
theorem State.readWindow_env (tu : List Turn) (ho : HostAgent) (n : Nat) : ∀ (s : State) (i : Nat),
    ({ s with turns := tu, host := ho } : State).readWindow i n =
      ((s.readWindow i n).1, { (s.readWindow i n).2 with turns := tu, host := ho }) := by
  induction n with
  | zero => exact fun _ _ => rfl
  | succ n ih =>
    intro s i
    have hb : ({ s with turns := tu, host := ho } : State).readWindowByte i =
        ((s.readWindowByte i).1, { (s.readWindowByte i).2 with turns := tu, host := ho }) := by
      unfold State.readWindowByte
      split
      · rfl
      · split <;> rfl
    simp only [State.readWindow, hb, ih]

/-- What a host read gives does not depend on the schedule or the host. -/
theorem State.hostRead_env (s : State) (tu : List Turn) (ho : HostAgent) (off n : Nat) :
    ({ s with turns := tu, host := ho } : State).hostRead off n =
      ((s.hostRead off n).1, { (s.hostRead off n).2 with turns := tu, host := ho }) := by
  unfold State.hostRead
  split
  · split <;> rfl
  · split
    · exact State.readWindow_env tu ho n s _
    · rfl

/-! ### No instruction refuses -/

theorem State.sendEntry_ne_refused (s : State) (dc : Level) (b : Byte) (r : Refusal) :
    s.sendEntry dc b ≠ .refused r := by
  unfold State.sendEntry; split <;> [split; skip] <;> simp

theorem exec_ne_refused (i : Instr) (s : State) (r : Refusal) : exec i s ≠ .refused r := by
  cases i <;> simp only [exec]
  case nop => simp [execNop]
  case init => unfold execInit; split <;> simp
  case clear => unfold execClear; split <;> simp
  case display => unfold execDisplay; split <;> simp
  case setPixel => unfold execSetPixel; repeat (first | split | simp)
  case xlate => unfold execXlate; repeat (first | split | simp)
  case endSeq => unfold execEndSeq; split <;> simp
  case cmd => exact State.sendEntry_ne_refused s (dcCommand s.cfg) _ r
  case data => exact State.sendEntry_ne_refused s (dcData s.cfg) _ r
  case resetPulse => unfold execResetPulse; split <;> simp
  case setRstLevel => simp [execSetRstLevel]
  case sendBuffer => unfold execSendBuffer; repeat (first | split | simp)
  case lutBuild => unfold execLutBuild; split <;> simp
  case fbFill => simp [execFbFill]
  case fbSetbit => unfold execFbSetbit; repeat (first | split | simp)
  all_goals
    simp [execIllegal6, execIllegal7, execIllegal8, execIllegal9, execIllegalA, execIllegalB, execIllegalC,
      execIllegalD, execIllegalE, execIllegalF, State.illegal]

end Sys2Proof.Machine
end

