-- ==== Sys2Proof/Tests/Slice0.lean ====
section
/-! SUPPORT. Tests: expected values are those of 95_test_vectors.md (its section in each comment) or worked by hand from
the rule named; and a state that meets the hypotheses of each obligation (the `witness` theorems). -/

namespace Sys2Proof.Machine

/-! ### States of one step -/

/-- A command latched, for the sequencer to execute (R220). -/
def State.latched (s : State) (w : CmdWord) : State :=
  { s with latch := w, busy := true, phase := .exec, idx := 0 }

/-- The host's turn, with one operation in its program. -/
def State.hostTurn (s : State) (op : HostOp) : State :=
  { s with turns := [.host], host := { HostAgent.none with program := [op] } }

/-- The sequencer's turn. -/
def State.seqTurn (s : State) : State := { s with turns := [.sequencer] }

/-- The bus's answers to come. -/
def State.answering (s : State) (l : List Wait) : State := { s with busAnswers := l }

namespace Slice0

/-! ### Configurations (95 section 2) and states -/

def cfgA : Config := { Config.cfgP with width := 400, height := 300 }

def cfgB : Config := { Config.cfgP with
  strategy := .shift, oorPolicy := .report, initSeq := [0x1001#16, 0x20A5#16, 0x0000#16]
  frameStartSeq := [0x0000#16], frameCommitSeq := [0x1020#16, 0x2001#16, 0x0000#16] }

def cfgC : Config := { Config.cfgP with
  orient := .landscape, strategy := .direct, initSeq := [0x1001#16, 0x20A5#16, 0x0000#16] }

def cfgD : Config := { Config.cfgP with orient := .landscape }

/-- CFG-P right after block reset. -/
def uninitP : State := State.resetOf Config.cfgP

/-- CFG-P in `READY` after `INIT` and `CLEAR WHITE`; the tables are V3's. -/
def readyP : State := { uninitP with
  ctrl := .ready, rstDone := true, lineDc := .low, lineCs := .high, lineRst := .high
  lutIndex := [0#21, 1#21, 2#21], lutMask := [0x80#8, 0x20#8, 0x08#8], lutValid := true
  fb := [(0, 0x00#8), (1, 0x00#8), (2, 0x00#8), (3, 0x00#8)] }

/-- Another configuration in `READY`, without tables. -/
def readyOf (c : Config) : State := { State.resetOf c with
  ctrl := .ready, rstDone := true, lineDc := .low, lineCs := .high, lineRst := .high }

/-- The phases of `INIT` from CFG-P. -/
def initP (p : Phase) (i : SeqIdx) (done : Bool) : State := { uninitP with
  ctrl := .initializing, busy := true, phase := p, idx := i, rstDone := done
  lineDc := .low, lineCs := .high, lineRst := .high }

/-- The phases of `DISPLAY` from `readyP`. -/
def dispP (p : Phase) (i : SeqIdx) : State := { readyP with ctrl := .rendering, busy := true, phase := p, idx := i }

/-- `dispP` in an open buffer transaction. -/
def bufP (p : Phase) (i : SeqIdx) : State := { dispP p i with txnOpen := true, lineDc := .high, lineCs := .low }

/-- The next state, if that is the outcome. -/
def nextOf : Host.Outcome State Fault Refusal → Option State
  | .next t => some t
  | .fault _ => none
  | .refused _ => none

def faultOf : Host.Outcome State Fault Refusal → Option Fault
  | .next _ => none
  | .fault f => some f
  | .refused _ => none

def refusalOf : Host.Outcome State Fault Refusal → Option Refusal
  | .next _ => none
  | .fault _ => none
  | .refused r => some r

/-- The framebuffer after, read byte by byte. -/
def bytes (o : Host.Outcome State Fault Refusal) : Option (List (Option Byte)) :=
  (nextOf o).map fun t => (List.range 4).map fun i => t.fb.read i

def status (o : Host.Outcome State Fault Refusal) : Option CmdWord := (nextOf o).map State.statusWord

def traceOf (o : Host.Outcome State Fault Refusal) : Option (List Event) := (nextOf o).map State.trace

/-! ### Well-formedness: one ill-formed term per check (R5, R90, R102, R185) -/

theorem test_wf_examples : ([cfgA, cfgB, cfgC, cfgD, Config.cfgP].all Config.wf) = true := by decide

theorem test_wf_width_zero : ({ Config.cfgP with width := 0 } : Config).wf = false := by decide

theorem test_wf_width_4097 : ({ Config.cfgP with width := 4097 } : Config).wf = false := by decide

theorem test_wf_height_zero : ({ Config.cfgP with height := 0 } : Config).wf = false := by decide

theorem test_wf_height_4097 : ({ Config.cfgP with height := 4097 } : Config).wf = false := by decide

theorem test_wf_width_4096 : ({ Config.cfgP with width := 4096, height := 4096 } : Config).wf = true := by decide

theorem test_wf_dout_unused : ({ Config.cfgP with pinDout := .unused } : Config).wf = false := by decide

theorem test_wf_sclk_unused : ({ Config.cfgP with pinSclk := .unused } : Config).wf = false := by decide

theorem test_wf_others_unused :
    ({ Config.cfgP with pinDc := .unused, pinCs := .unused, pinRst := .unused } : Config).wf = true := by decide

theorem test_wf_init_table : ({ Config.cfgP with initSeq := [] } : Config).wf = false := by decide

theorem test_wf_start_table : ({ Config.cfgP with frameStartSeq := [0x3000#16, 0x0000#16] } : Config).wf = false := by
  decide

theorem test_wf_commit_table : ({ Config.cfgP with frameCommitSeq := [0x103C#16] } : Config).wf = false := by decide

/-- Section 3.1: entries `0x3000`, `0x1100` and a table with no `END`; and `END` before the last, a micro-operation. -/
theorem test_wf_tables :
    [[], [0x102C#16], [0x3000#16, 0x0000#16], [0x1100#16, 0x0000#16], [0x0000#16, 0x0000#16], [0x8000#16, 0x0000#16],
      [0x0001#16]].all (fun t => !tableWf t) = true := by decide

theorem test_wf_map_length : (PixelMap.other [0]).wf 2 = false := by decide

theorem test_wf_map_range : (PixelMap.other [0, 2]).wf 2 = false := by decide

theorem test_wf_map_twice : (PixelMap.other [0, 0]).wf 2 = false := by decide

theorem test_wf_map_ok : (PixelMap.other [1, 0]).wf 2 = true := by decide

/-- R90: a host command is no table entry, a micro-operation is admitted in no table, `END` is no micro-operation. -/
theorem test_wf_sources :
    Instr.init.wellFormedFor .table = false ∧ Instr.resetPulse.wellFormedFor .table = false ∧
      Instr.endSeq.wellFormedFor .micro = false ∧ (Instr.cmd 0#8).wellFormedFor .host = false ∧
      (Instr.cmd 0#8).wellFormedFor .micro = true := by decide

/-! ### Decoding, by words written out from the encodings (95 section 3.1, R100, R104) -/

theorem test_decode_nop : decodeTableWord 32 0x0ABCDEF0 = some .nop := by decide
theorem test_decode_init : decodeTableWord 32 0x10000000 = some .init := by decide
theorem test_decode_clear_black : decodeTableWord 32 0x2FFFFFFF = some (.clear true) := by decide
theorem test_decode_clear_white : decodeTableWord 32 0x2E000000 = some (.clear false) := by decide
/-- `OP` 0011, `RSV` 000, `C` 1, `Y` 000100101011 (299), `X` 000110001111 (399). -/
theorem test_decode_setPixel :
    decodeTableWord 32 0b00110001000100101011000110001111 = some (.setPixel 399#12 299#12 true) := by decide
theorem test_decode_display : decodeTableWord 32 0x40000000 = some .display := by decide
/-- `OP` 0101, `C` 1 ignored, `Y` 3, `X` 10. -/
theorem test_decode_xlate : decodeTableWord 32 0x5100300A = some (.xlate 10#12 3#12) := by decide
theorem test_decode_illegal6 : decodeTableWord 32 0x60000000 = some .illegal6 := by decide
theorem test_decode_illegal7 : decodeTableWord 32 0x7FFFFFFF = some .illegal7 := by decide
theorem test_decode_illegal8 : decodeTableWord 32 0x80000000 = some .illegal8 := by decide
theorem test_decode_illegal9 : decodeTableWord 32 0x90000000 = some .illegal9 := by decide
theorem test_decode_illegalA : decodeTableWord 32 0xA0000000 = some .illegalA := by decide
theorem test_decode_illegalB : decodeTableWord 32 0xB0000000 = some .illegalB := by decide
theorem test_decode_illegalC : decodeTableWord 32 0xC0000000 = some .illegalC := by decide
theorem test_decode_illegalD : decodeTableWord 32 0xD0000000 = some .illegalD := by decide
theorem test_decode_illegalE : decodeTableWord 32 0xE0000000 = some .illegalE := by decide
theorem test_decode_illegalF : decodeTableWord 32 0xF0000000 = some .illegalF := by decide
theorem test_decode_endSeq : decodeTableWord 16 0x0000 = some .endSeq := by decide
/-- `KIND` 0001, `RSV` 0000, `BYTE` 00101100. -/
theorem test_decode_cmd : decodeTableWord 16 0b0001000000101100 = some (.cmd 0x2C#8) := by decide
theorem test_decode_data : decodeTableWord 16 0x20A5 = some (.data 0xA5#8) := by decide
theorem test_decode_resetPulse : decodeTableWord 16 0x8000 = some .resetPulse := by decide
theorem test_decode_setRstLevel : decodeTableWord 16 0x9001 = some (.setRstLevel true) := by decide
theorem test_decode_sendBuffer : decodeTableWord 16 0xA000 = some .sendBuffer := by decide
theorem test_decode_lutBuild : decodeTableWord 16 0xB000 = some .lutBuild := by decide
/-- `KIND` 1100, `RSV` 0000, `C` in bit 0. -/
theorem test_decode_fbFill : decodeTableWord 16 0b1100000000000001 = some (.fbFill true) := by decide
theorem test_decode_fbSetbit : decodeTableWord 16 0xD000 = some .fbSetbit := by decide

/-- `RSV` set, an unnamed `KIND`, `END` with a byte, an unused operand bit, a width no word has. -/
theorem test_decode_rejects :
    decodeTableWord 16 0x1100 = none ∧ decodeTableWord 16 0x3000 = none ∧ decodeTableWord 16 0x0001 = none ∧
      decodeTableWord 16 0x9002 = none ∧ decodeTableWord 8 0x00 = none := by decide

/-! ### The translator (95 section 3.2) -/

/-- Table V2, coordinates and `RESULT`, under the given strategy. -/
def xlates (c : Config) (rows : List (Coord × Coord × CmdWord)) : Bool :=
  rows.all fun r => ((nextOf (execXlate r.1 r.2.1 (readyOf c).withTables)).map (·.result)) == some r.2.2

def rowsP : List (Coord × Coord × CmdWord) :=
  [(0, 0, 0x80000080), (9, 0, 0x80000140), (0, 2, 0x80000208), (9, 2, 0x80000304), (7, 1, 0x80000240),
    (10, 0, 0x00000000), (0, 3, 0x00000000)]

def rowsL : List (Coord × Coord × CmdWord) :=
  [(0, 0, 0x80000208), (2, 0, 0x80000080), (0, 9, 0x80000304), (2, 9, 0x80000140), (1, 5, 0x80000101),
    (3, 0, 0x00000000), (0, 10, 0x00000000)]

theorem test_xlate_v2 :
    [Strategy.direct, .shift, .lut].all (fun t =>
      xlates { Config.cfgP with strategy := t } rowsP && xlates { cfgD with strategy := t } rowsL) = true := by decide

/-- V2, the width limits of R203. -/
theorem test_translate_4096 :
    let c : Config := { Config.cfgP with width := 4096, height := 4096 }
    translateShift c 4095 4095 = some ⟨2097151, 0x01#8⟩ ∧ translateDirect c 0 4095 = some ⟨2096640, 0x80#8⟩ ∧
      translateShift { c with orient := .landscape } 4095 4095 = some ⟨511, 0x01#8⟩ := by decide

/-- V1. -/
theorem test_mulW : mulW 400 1 = 400 ∧ mulW 400 299 = 119600 ∧ mulW 4096 1 = 4096 := by decide

/-- V3, 13 x 11 landscape. -/
theorem test_lutBuild_13x11 :
    let c : Config := { Config.cfgP with width := 13, height := 11, orient := .landscape }
    (nextOf (execLutBuild (State.resetOf c))).map (fun t => (t.lutIndex, t.lutMask)) =
      some ([16, 14, 13, 11, 9, 8, 6, 4, 3, 1, 0],
        [0x20, 0x04, 0x80, 0x10, 0x02, 0x40, 0x08, 0x01, 0x20, 0x04, 0x80]) := by decide

/-- R34: no tables unless `STRATEGY = LUT`. -/
theorem test_lutBuild_no_tables : faultOf (execLutBuild (State.resetOf cfgB)) = some .noLut := by decide

/-! ### Host commands (95 section 3.5) -/

theorem test_nop_idle : status (exec .nop uninitP) = some 0x000#32 := by decide

theorem test_nop_busy : status (exec .nop (readyP.latched 0x40000000#32)) = some 0x285#32 := by decide

/-- R224: the first three events of the `INIT` trace (R228). -/
theorem test_init_events :
    traceOf (exec .init (uninitP.latched 0x10000000#32)) =
      some [.line .cs .high, .line .dc .low, .line .rst .high] := by decide

theorem test_init_in_ready : status (exec .init (readyP.latched 0x10000000#32)) = some 0x224#32 := by decide

theorem test_clear_black :
    bytes (exec (.clear true) readyP) = some [some 0xFF#8, some 0xFF#8, some 0xFF#8, some 0xFF#8] := by decide

theorem test_clear_uninit : status (exec (.clear false) (uninitP.latched 0x20000000#32)) = some 0x020#32 := by decide

/-- Section 3.3: pixel (9, 2). -/
theorem test_setPixel_corner :
    bytes (exec (.setPixel 9#12 2#12 true) readyP) = some [some 0x00#8, some 0x00#8, some 0x00#8, some 0x04#8] := by
  decide

theorem test_setPixel_report :
    status (exec (.setPixel 10#12 0#12 true) ((readyOf cfgB).latched 0x3100000A#32)) = some 0x244#32 := by decide

theorem test_display_starts : status (exec .display (readyP.latched 0x40000000#32)) = some 0x207#32 := by decide

theorem test_display_uninit : status (exec .display (uninitP.latched 0x40000000#32)) = some 0x020#32 := by decide

theorem test_xlate_report :
    (nextOf (exec (.xlate 0#12 3#12) ({ readyOf cfgB with result := 0x80000080#32 }.latched 0x50003000#32))).map
      (fun t => (t.result, t.statusWord)) = some (0x00000000#32, 0x244#32) := by decide

theorem test_illegal_reset : status (exec .illegal7 (uninitP.latched 0x7FFFFFFF#32)) = some 0x030#32 := by decide

/-- `ILLEGAL_OP` wins over `INVALID_STATE` (R275). -/
theorem test_illegal_failed :
    status (exec .illegalF ({ initP .exec 0 true with ctrl := .failed }.latched 0xF0000000#32)) = some 0x238#32 := by
  decide

/-! ### The framebuffer (95 section 3.3) -/

theorem test_fbFill_black :
    bytes (exec (.fbFill true) readyP) = some [some 0xFF#8, some 0xFF#8, some 0xFF#8, some 0xFF#8] := by decide

/-- `FB_SETBIT 0, 0x80, 0` on bytes `0xFF`: pixel (0, 0), colour 0. -/
theorem test_fbSetbit_clears :
    bytes (exec .fbSetbit { (readyP.fillFb true) with latch := 0x30000000#32 }) =
      some [some 0x7F#8, some 0xFF#8, some 0xFF#8, some 0xFF#8] := by decide

/-- `FB_SETBIT 4, 0x80, 1`: the model fault of R164. -/
theorem test_setBit_outside : (readyP.setBit ⟨4, 0x80#8⟩ true).toOption = none := by decide

/-! ### Transport (95 section 3.4) -/

theorem test_cmd_ready :
    traceOf (exec (.cmd 0x2C#8) ((dispP .dispStart 0).answering [.ready, .ready])) =
      some [.line .dc .low, .line .cs .low, .byte 0x2C#8, .done, .line .cs .high] := by decide

theorem test_cmd_complete_timeout :
    (nextOf (exec (.cmd 0x2C#8) ((dispP .dispStart 0).answering [.ready, .timeout]))).map
      (fun t => (t.trace, t.statusWord)) =
      some ([.line .dc .low, .line .cs .low, .byte 0x2C#8, .abort, .line .cs .high], 0x314#32) := by decide

theorem test_data_ready :
    traceOf (exec (.data 0xA5#8) ((dispP .dispCommit 0).answering [.ready, .ready])) =
      some [.line .dc .high, .line .cs .low, .byte 0xA5#8, .done, .line .cs .high] := by decide

/-- Section 3.5: `INIT`, first wait `TIMEOUT`. -/
theorem test_data_init_timeout :
    (nextOf (exec (.data 0xA5#8) ((initP .initSeq 0 true).answering [.timeout]))).map
      (fun t => (t.trace, t.statusWord)) =
      some ([.line .dc .high, .line .cs .low, .abort, .line .cs .high], 0x218#32) := by decide

theorem test_end_commit : status (exec .endSeq (dispP .dispCommit 1)) = some 0x204#32 := by decide

theorem test_resetPulse :
    traceOf (exec .resetPulse (initP .initReset 0 false)) =
      some [.line .rst .low, .delay 10, .line .rst .high, .delay 120] := by decide

theorem test_setRstLevel : traceOf (exec (.setRstLevel true) uninitP) = some [.line .rst .low] := by decide

theorem test_sendBuffer_timeout :
    (nextOf (exec .sendBuffer ((bufP .dispBuf 0).answering [.timeout]))).map (fun t => (t.trace, t.statusWord)) =
      some ([.abort, .line .cs .high], 0x314#32) := by decide

/-- R127: the last byte of four is followed by the close. -/
theorem test_sendBuffer_last :
    (nextOf (exec .sendBuffer ((bufP .dispBuf 3).answering [.ready]))).map (fun t => (t.trace, t.phase, t.idx)) =
      some ([.byte 0x00#8], .dispBufClose, 0#22) := by decide

/-! ### Host accesses (95 sections 3.3 and 3.6) -/

theorem test_config_words :
    configWord cfgA = 0x0412B18F#32 ∧ configWord cfgB = 0x0A002009#32 ∧ configWord cfgD = 0x05002009#32 := by decide

def window : State := { readyP with fb := [(0, 0x12#8), (1, 0x34#8), (2, 0x56#8), (3, 0x78#8)] }

theorem test_window_reads :
    (window.hostRead 0x200001 1).1 = [0x34#8] ∧ (window.hostRead 0x200000 4).1 = [0x12#8, 0x34#8, 0x56#8, 0x78#8] ∧
      (window.hostRead 0x200004 1).1 = [0x00#8] ∧ (window.hostRead 0x200004 4).1 = [0#8, 0#8, 0#8, 0#8] := by decide

theorem test_inert_reads :
    (window.hostRead 0x10 4).1 = [0#8, 0#8, 0#8, 0#8] ∧ (window.hostRead 0x4 1).1 = [0#8] ∧
      (window.hostRead 0x200000 2).1 = [0#8, 0#8] ∧ (window.hostRead 0x200002 4).1 = [0#8, 0#8, 0#8, 0#8] := by decide

/-- `STATUS = 0x394`, as in program P4. -/
def torn : State := { readyP with torn := true, collide := true, lastErr := .transportTimeout }

theorem test_status_write :
    status (step (torn.hostTurn (.write 0x4#22 4 0x80#32))) = some 0x314#32 ∧
      status (step (torn.hostTurn (.write 0x4#22 4 0xFFFFFF7F#32))) = some 0x394#32 := by decide

theorem test_byte_write_of_cmd :
    (nextOf (step (uninitP.hostTurn (.write 0x0#22 1 0x10000000#32)))).map (·.busy) = some false := by decide

/-- `RD STATUS` in `READY` (`STATUS = 0x204`), and while `DISPLAY` runs (`0x207`): what the program got, what `BRBUSY`
tests. -/
theorem test_status_read :
    let host := fun s => (nextOf (step (State.hostTurn s (.read 0x4#22 4)))).map fun t => (t.host.reads, t.host.lastBusy)
    host readyP = some ([⟨0x4#22, [0x04, 0x02, 0x00, 0x00]⟩], false) ∧
      host (dispP .dispStart 0) = some ([⟨0x4#22, [0x07, 0x02, 0x00, 0x00]⟩], true) := by decide

/-! ### Steps -/

theorem test_refuses_ill_formed :
    refusalOf (step { uninitP with cfg := { Config.cfgP with width := 0 } }) = some .illFormedConfig := by decide

theorem test_idle_is_stuck : faultOf (step uninitP.seqTurn) = some .sequencerStuck := by decide

/-- The word placed is the one the next step runs. -/
theorem test_step_runs_placed_word :
    status (step (uninitP.withFetchWord 32 0x7FFFFFFF)) = some 0x030#32 ∧
      traceOf (step (uninitP.withFetchWord 16 0x9001)) = some [.line .rst .low] := by decide

/-- R227, R228: the `INIT_BUILD` step ends in `STATUS = 0x204` with V3's tables. -/
theorem test_init_build :
    (nextOf (step (initP .initBuild 0 true))).map (fun t => (t.statusWord, t.lutIndex, t.lutMask)) =
      some (0x204#32, [0#21, 1#21, 2#21], [0x80#8, 0x20#8, 0x08#8]) := by decide

/-- R106: what `WAIT` at position 1 and `PLOT 9, 2` stand for. -/
theorem test_assemble :
    assemble [.init, .wait, .plot 9#12 2#12] 0 =
      [.write 0x0#22 4 0x10000000#32, .read 0x4#22 4, .brBusy 1, .write 0x0#22 4 0x31002009#32] := by decide

/-! ### Witnesses: states and operands that meet the hypotheses of each obligation

`ready_inv` and the like give states that meet `BlockInv`. -/

/-- An outcome that is a next state with a property. -/
theorem next_of_any {o : Host.Outcome State Fault Refusal} {p : State → Bool} (h : (nextOf o).any p = true) :
    ∃ t, o = .next t ∧ p t = true := by
  cases o <;> simp [nextOf] at h
  exact ⟨_, rfl, h⟩

/-- `BlockInv` names nothing of the environment. -/
theorem inv_env {s : State} (h : BlockInv s) (tu : List Turn) (ho : HostAgent) (an : List Wait) :
    BlockInv { s with turns := tu, host := ho, busAnswers := an } :=
  ⟨h.config, h.noUop, h.busy, h.ctrl, h.resetOnce, h.txn, h.idx, h.latch, h.lut, h.fb, h.result, h.lines⟩

theorem readyP_fb : FbWellFormed readyP := by
  refine ⟨by decide, fun a ha => ?_⟩
  have h4 : (4 : Nat) ≤ a := ha
  have h : a ≠ 0 ∧ a ≠ 1 ∧ a ≠ 2 ∧ a ≠ 3 := by omega
  simp [readyP, Memory.read, h]

theorem ready_inv : BlockInv readyP :=
  ⟨by decide, rfl, by simp [BusyMatchesPhase, readyP, uninitP, State.resetOf], ⟨by decide, by decide⟩,
    by simp [ResetRanOnce, readyP, uninitP, State.resetOf], by simp [TxnMatchesPhase, readyP, uninitP, State.resetOf],
    rfl, by decide, ⟨by decide, fun _ => by decide⟩, readyP_fb, .inl rfl,
    ⟨by decide, fun _ => ⟨.inl rfl, by decide, by decide⟩⟩⟩

theorem ready_latched_inv (w : CmdWord) (h : opField w ≠ 0#4) : BlockInv (readyP.latched w) :=
  ⟨ready_inv.config, rfl, by simp [BusyMatchesPhase, State.latched], ⟨nofun, nofun⟩,
    by simp [ResetRanOnce, State.latched, readyP],
    by simp [TxnMatchesPhase, State.latched, readyP, uninitP, State.resetOf], rfl, fun _ => h,
    ready_inv.lut, readyP_fb, .inl rfl, ready_inv.lines⟩

theorem build_inv : BlockInv (initP .initBuild 0 true) :=
  ⟨by decide, rfl, by simp [BusyMatchesPhase, initP], rfl, by simp [ResetRanOnce, initP],
    by simp [TxnMatchesPhase, initP, uninitP, State.resetOf], rfl, by decide, ⟨by decide, nofun⟩,
    ⟨rfl, fun _ _ => rfl⟩, .inl rfl, ⟨nofun, fun _ => ⟨.inl rfl, by decide, by decide⟩⟩⟩

theorem uninit_latched_inv (w : CmdWord) (h : opField w ≠ 0#4) : BlockInv (uninitP.latched w) :=
  ⟨ready_inv.config, rfl, by simp [BusyMatchesPhase, State.latched], ⟨nofun, nofun⟩,
    by simp [ResetRanOnce, State.latched, uninitP, State.resetOf],
    by simp [TxnMatchesPhase, State.latched, uninitP, State.resetOf], rfl, fun _ => h,
    ⟨by simp [State.latched, uninitP, State.resetOf], nofun⟩, ⟨rfl, fun _ _ => rfl⟩, .inl rfl,
    ⟨fun _ => ⟨rfl, rfl, rfl, rfl⟩, fun h => absurd rfl h⟩⟩

/-- `FAILED`, as after `INIT` with its first wait drawing `TIMEOUT`. -/
def failedP : State := { initP .idle 0 true with ctrl := .failed, busy := false, lastErr := .transportTimeout }

theorem failed_latched_inv (w : CmdWord) (h : opField w ≠ 0#4) : BlockInv (failedP.latched w) :=
  ⟨ready_inv.config, rfl, by simp [BusyMatchesPhase, State.latched], ⟨nofun, nofun⟩,
    by simp [ResetRanOnce, State.latched, failedP, initP],
    by simp [TxnMatchesPhase, State.latched, failedP, initP, uninitP, State.resetOf], rfl, fun _ => h,
    ⟨by simp [State.latched, failedP, initP, uninitP, State.resetOf], nofun⟩, ⟨rfl, fun _ _ => rfl⟩, .inl rfl,
    ⟨nofun, fun _ => ⟨.inl rfl, rfl, rfl⟩⟩⟩

/-- The third byte of a frame's buffer is next. -/
theorem buffer_inv : BlockInv (bufP .dispBuf 2) :=
  ⟨by decide, rfl, by simp [BusyMatchesPhase, bufP, dispP], rfl, by simp [ResetRanOnce, bufP, dispP, readyP],
    by simp [TxnMatchesPhase, bufP, dispP], show (2 : Nat) < 4 by decide, by decide, ⟨by decide, fun _ => by decide⟩,
    readyP_fb, .inl rfl, ⟨by decide, fun _ => ⟨.inr rfl, by decide, by decide⟩⟩⟩

/-! #### Encoding -/

theorem witness_DecodeUndoesEncode :
    decode (.micro 0x9001#16) = .ok (.setRstLevel true) ∧ (Instr.setRstLevel true).wellFormedFor .micro = true :=
  ⟨rfl, rfl⟩

/-! #### Steps -/

theorem witness_StepRunsDecodedInstruction_table :
    let s := (dispP .dispStart 0).seqTurn
    s.cfg.wf = true ∧ s.turn = .sequencer ∧ s.fetch = .ok (some (.table 0x102C#16)) ∧
      decode (.table 0x102C#16) = .ok (.cmd 0x2C#8) := ⟨by decide, rfl, rfl, rfl⟩

theorem witness_StepRunsDecodedInstruction_host :
    let s := readyP.seqTurn.latched 0x5100000A#32
    s.cfg.wf = true ∧ s.turn = .sequencer ∧ s.fetch = .ok (some (.host 0x5100000A#32)) ∧
      decode (.host 0x5100000A#32) = .ok (.xlate 10#12 0#12) := ⟨by decide, rfl, rfl, rfl⟩

theorem witness_StepRunsDecodedInstruction_nop :
    let s := readyP.hostTurn (.write 0x0#22 4 0x0ABCDEF0#32)
    s.cfg.wf = true ∧ s.hostWrites 0x0#22 0x0ABCDEF0#32 ∧ decode (.host 0x0ABCDEF0#32) = .ok .nop ∧
      opField 0x0ABCDEF0#32 = 0#4 := ⟨by decide, ⟨rfl, rfl⟩, rfl, by decide⟩

theorem witness_SequencerFetchesByPhase_idle_exec :
    (readyP.seqTurn.uop = none ∧ readyP.seqTurn.phase = .idle ∧ readyP.seqTurn.cfg.wf = true ∧
      readyP.seqTurn.turn = .sequencer) ∧
    ((readyP.latched 0x40000000#32).phase = .exec ∧ opField (readyP.latched 0x40000000#32).latch ≠ 0#4) :=
  ⟨⟨rfl, rfl, by decide, rfl⟩, rfl, by decide⟩

theorem witness_SequencerFetchesByPhase_codes :
    (initP .initReset 0 false).phase = .initReset ∧ (initP .initBuild 0 true).phase = .initBuild ∧
      (dispP .dispBufOpen 0).phase = .dispBufOpen ∧ (bufP .dispBuf 3).phase = .dispBuf ∧
      (bufP .dispBufClose 0).phase = .dispBufClose := ⟨rfl, rfl, rfl, rfl, rfl⟩

theorem witness_SequencerFetchesByPhase_tables :
    (initP .initSeq 2 true).cfg.initSeq[(2#22).toNat]? = some 0x0000#16 ∧
      (dispP .dispStart 0).cfg.frameStartSeq[(0#22).toNat]? = some 0x102C#16 ∧
      (dispP .dispCommit 1).cfg.frameCommitSeq[(1#22).toNat]? = some 0x0000#16 := ⟨rfl, rfl, rfl⟩

theorem witness_CmdWriteStartsOrCollides_busy :
    let s := (readyP.latched 0x40000000#32).hostTurn (.write 0x0#22 4 0x21000000#32)
    s.cfg.wf = true ∧ s.hostWrites 0x0#22 0x21000000#32 ∧ s.busy = true := ⟨by decide, ⟨rfl, rfl⟩, rfl⟩

theorem witness_CmdWriteStartsOrCollides_nop :
    let s := readyP.hostTurn (.write 0x0#22 4 0x0FFFFFFF#32)
    s.cfg.wf = true ∧ s.hostWrites 0x0#22 0x0FFFFFFF#32 ∧ s.busy = false ∧ (0x0FFFFFFF#32).toNat / 2 ^ 28 = 0 :=
  ⟨by decide, ⟨rfl, rfl⟩, rfl, by decide⟩

theorem witness_CmdWriteStartsOrCollides_start :
    let s := uninitP.hostTurn (.write 0x0#22 4 0x10000000#32)
    s.cfg.wf = true ∧ s.hostWrites 0x0#22 0x10000000#32 ∧ s.busy = false ∧ (0x10000000#32).toNat / 2 ^ 28 ≠ 0 :=
  ⟨by decide, ⟨rfl, rfl⟩, rfl, by decide⟩

theorem witness_IllFormedConfigRefused :
    let s := { uninitP with cfg := { Config.cfgP with height := 4097 } }
    refusalOf (step s) = some .illFormedConfig ∧ ¬ s.cfg.height ≤ 4096 := ⟨by decide, by decide⟩

theorem witness_TableCheckIsWellFormedness :
    tableWf [0x0000#16] = true ∧
      tableWf ({ Config.cfgP with frameCommitSeq := [0x103C#16] } : Config).frameCommitSeq = false :=
  ⟨by decide, by decide⟩

/-! #### Host commands -/

theorem witness_NopDoesNothingOrCollides :
    (0x0FFFFFFF#32).toNat / 2 ^ 28 = 0 ∧ uninitP.busy = false ∧ (readyP.latched 0x40000000#32).busy = true :=
  ⟨by decide, rfl, rfl⟩

theorem witness_InitDrivesLinesInactive :
    (0x1FFFFFFF#32).toNat / 2 ^ 28 = 1 ∧ (uninitP.latched 0x10000000#32).ctrl = .uninit ∧ failedP.ctrl ≠ .uninit :=
  ⟨by decide, rfl, by decide⟩

/-- `INIT` and `XLATE` with a failing precondition, the same with one that holds, and `ILLEGAL_6`, which has none. -/
theorem witness_FailedPreconditionIsInvalidState :
    (decode (.host 0x10000000#32) = .ok .init ∧ (0x10000000#32).toNat / 2 ^ 28 = 1 ∧ readyP.ctrl ≠ .uninit) ∧
    (decode (.host 0x50000000#32) = .ok (.xlate 0#12 0#12) ∧ (0x50000000#32).toNat / 2 ^ 28 = 5 ∧
      failedP.ctrl ≠ .ready) ∧
    (uninitP.ctrl = .uninit ∧ uninitP.lastErr ≠ .invalidState ∧ (nextOf (exec .init uninitP)).isSome = true) ∧
    (readyP.ctrl = .ready ∧ readyP.lastErr ≠ .invalidState ∧
      (nextOf (exec (.xlate 0#12 0#12) readyP)).isSome = true) ∧
    (decode (.host 0x60000000#32) = .ok .illegal6 ∧ (0x60000000#32).toNat / 2 ^ 28 = 6 ∧
      (nextOf (exec .illegal6 readyP)).isSome = true) :=
  ⟨⟨rfl, by decide, by decide⟩, ⟨rfl, by decide, by decide⟩, ⟨rfl, by decide, by decide⟩,
    ⟨rfl, by decide, by decide⟩, rfl, by decide, by decide⟩

theorem witness_ClearFillsFramebuffer :
    (0x2E000000#32).toNat / 2 ^ 28 = 2 ∧ (readyP.latched 0x21000000#32).ctrl = .ready ∧ uninitP.ctrl ≠ .ready :=
  ⟨by decide, rfl, by decide⟩

theorem readyP_tables : TablesReady readyP := fun _ => by decide

/-- The last pixel, (9, 2), and the first column out of bounds. -/
theorem witness_SetPixelWritesOneBit :
    (readyP.cfg.wf = true ∧ readyP.ctrl = .ready ∧ TablesReady readyP ∧
      (9#12).toNat < logicalWidth readyP.cfg ∧ (2#12).toNat < logicalHeight readyP.cfg) ∧
    ¬ ((10#12).toNat < logicalWidth readyP.cfg ∧ (2#12).toNat < logicalHeight readyP.cfg) ∧ uninitP.ctrl ≠ .ready ∧
    (0x3112B18F#32).toNat / 2 ^ 28 = 3 :=
  ⟨⟨by decide, rfl, readyP_tables, by decide, by decide⟩, by decide, by decide, by decide⟩

theorem witness_XlateWritesResult :
    let s := readyOf cfgC
    (s.cfg.wf = true ∧ s.ctrl = .ready ∧ TablesReady s ∧ (2#12).toNat < logicalWidth s.cfg ∧
      (9#12).toNat < logicalHeight s.cfg) ∧
    ¬ ((2#12).toNat < logicalWidth s.cfg ∧ (10#12).toNat < logicalHeight s.cfg) ∧ uninitP.ctrl ≠ .ready ∧
    (0x5100000A#32).toNat / 2 ^ 28 = 5 :=
  ⟨⟨by decide, rfl, nofun, by decide, by decide⟩, by decide, by decide, by decide⟩

/-- Coordinates for both cases: (9, 2) is translated, (10, 0) is `INVALID`. -/
theorem witness_PixelRoundTrip :
    readyP.cfg.wf = true ∧ readyP.ctrl = .ready ∧ TablesReady readyP ∧
      translateDirect readyP.cfg 9 2 = some ⟨3, 0x04#8⟩ ∧ translateDirect readyP.cfg 10 0 = none :=
  ⟨by decide, rfl, readyP_tables, by decide, by decide⟩

theorem witness_OutOfBoundsIsRejected :
    readyP.ctrl = .ready ∧ ¬ ((10#12).toNat < logicalWidth readyP.cfg ∧ (0#12).toNat < logicalHeight readyP.cfg) ∧
      ¬ ((0#12).toNat < logicalWidth readyP.cfg ∧ (3#12).toNat < logicalHeight readyP.cfg) :=
  ⟨rfl, by decide, by decide⟩

theorem witness_DisplayStartsRendering :
    (0x4FFFFFFF#32).toNat / 2 ^ 28 = 4 ∧ (readyP.latched 0x40000000#32).ctrl = .ready ∧ failedP.ctrl ≠ .ready :=
  ⟨by decide, rfl, by decide⟩

theorem witness_IllegalOpsOnlyReport :
    Instr.illegal6 ∈ [Instr.illegal6, .illegal7, .illegal8, .illegal9, .illegalA, .illegalB, .illegalC, .illegalD,
      .illegalE, .illegalF] ∧ 6 ≤ (0x60000000#32).toNat / 2 ^ 28 ∧ 6 ≤ (0xFFFFFFFF#32).toNat / 2 ^ 28 :=
  ⟨by decide, by decide, by decide⟩

/-! #### Table entries and micro-operations -/

theorem witness_EndMovesToNextPhase :
    (initP .initSeq 2 true).phase = .initSeq ∧ (dispP .dispStart 1).phase = .dispStart ∧
      (dispP .dispCommit 1).phase = .dispCommit := ⟨rfl, rfl, rfl⟩

theorem witness_EntrySendsItsByte_ready :
    let s := (initP .initSeq 0 true).answering [.ready, .ready]
    s.phase.runsTable = true ∧ s.rstDone = true ∧ s.answer 0 = .ready ∧ s.answer 1 = .ready := ⟨rfl, rfl, rfl, rfl⟩

theorem witness_EntrySendsItsByte_acceptTimeout :
    let s := (initP .initSeq 1 true).answering [.timeout]
    s.phase.runsTable = true ∧ s.rstDone = true ∧ s.answer 0 = .timeout := ⟨rfl, rfl, rfl⟩

theorem witness_EntrySendsItsByte_completeTimeout :
    let s := (dispP .dispCommit 0).answering [.ready, .timeout]
    s.phase.runsTable = true ∧ s.rstDone = true ∧ s.answer 0 = .ready ∧ s.answer 1 = .timeout := ⟨rfl, rfl, rfl, rfl⟩

theorem witness_EntrySendsItsByte_noReset :
    (initP .initSeq 0 false).phase.runsTable = true ∧ (initP .initSeq 0 false).rstDone = false := ⟨rfl, rfl⟩

theorem witness_TcountStaysWithinBudget :
    (readyP.answering [.timeout]).answer 0 = .timeout ∧ (readyP.answering [.ready]).answer 0 = .ready := ⟨rfl, rfl⟩

theorem witness_ResetPulseRunsOnce : (initP .initReset 0 false).rstDone = false ∧ readyP.rstDone = true := ⟨rfl, rfl⟩

theorem witness_BufferOpens : (dispP .dispBufOpen 0).phase = .dispBufOpen := rfl

theorem witness_BufferStreamsByte :
    let s := (bufP .dispBuf 3).answering [.ready]
    let t := (bufP .dispBuf 0).answering [.timeout]
    (s.phase = .dispBuf ∧ s.idx.toNat < fbLen s.cfg ∧ s.answer 0 = .ready) ∧
      (t.phase = .dispBuf ∧ t.idx.toNat < fbLen t.cfg ∧ t.answer 0 = .timeout) :=
  ⟨⟨rfl, by decide, rfl⟩, rfl, by decide, rfl⟩

theorem witness_BufferCloses :
    let s := (bufP .dispBufClose 0).answering [.ready]
    let t := (bufP .dispBufClose 0).answering [.timeout]
    (s.phase = .dispBufClose ∧ s.answer 0 = .ready) ∧ (t.phase = .dispBufClose ∧ t.answer 0 = .timeout) :=
  ⟨⟨rfl, rfl⟩, rfl, rfl⟩

theorem witness_LutBuildFillsTables :
    (initP .initBuild 0 true).cfg.wf = true ∧ (initP .initBuild 0 true).cfg.strategy = .lut ∧
      (initP .initBuild 0 true).cfg.pixelMap = .std := ⟨by decide, rfl, rfl⟩

theorem witness_InitBuildMakesReady :
    let s := (initP .initBuild 0 true).seqTurn
    let t := { s with cfg := cfgB }
    (s.cfg.wf = true ∧ s.turn = .sequencer ∧ s.uop = none ∧ s.phase = .initBuild ∧ s.cfg.strategy = .lut) ∧
      (t.cfg.wf = true ∧ t.turn = .sequencer ∧ t.uop = none ∧ t.phase = .initBuild ∧ t.cfg.strategy ≠ .lut) :=
  ⟨⟨by decide, rfl, rfl, rfl, rfl⟩, by decide, rfl, rfl, rfl, by decide⟩

theorem witness_SetbitWritesOneBit :
    let s := { readyP with latch := 0x31002009#32 }
    s.cfg.wf = true ∧ TablesReady s ∧ (xField s.latch).toNat < logicalWidth s.cfg ∧
      (yField s.latch).toNat < logicalHeight s.cfg := ⟨by decide, readyP_tables, by decide, by decide⟩

/-! #### The translator -/

theorem witness_StdMapFormula :
    (cfgA.pixelMap = .std ∧ cfgA.orient = .portrait) ∧ cfgD.pixelMap = .std ∧ cfgD.orient = .landscape :=
  ⟨⟨rfl, rfl⟩, rfl, rfl⟩

theorem witness_StrategiesAgree :
    readyP.cfg.wf = true ∧ readyP.cfg.pixelMap = .std ∧ readyP.lutValid = true ∧
      readyP.lutIndex = builtIndexTable readyP.cfg ∧ readyP.lutMask = builtMaskTable readyP.cfg :=
  ⟨by decide, rfl, rfl, by decide, by decide⟩

theorem witness_PixelMapIsBijective :
    cfgD.wf = true ∧ cfgD.pixelMap = .std ∧ 29 < cfgD.width * cfgD.height := ⟨by decide, rfl, by decide⟩

/-- Under `STD_MAP` and under another map. -/
theorem witness_TranslationStaysInFramebuffer :
    let c : Config := { Config.cfgP with width := 2, height := 1, pixelMap := .other [1, 0] }
    (cfgD.wf = true ∧ 2 < logicalWidth cfgD ∧ 9 < logicalHeight cfgD) ∧
      (c.wf = true ∧ 1 < logicalWidth c ∧ 0 < logicalHeight c) :=
  ⟨⟨by decide, by decide, by decide⟩, by decide, by decide, by decide⟩

theorem witness_CornersMapAsTabled :
    (cfgA.wf = true ∧ cfgA.pixelMap = .std ∧ cfgA.orient = .portrait) ∧ cfgD.wf = true ∧ cfgD.orient = .landscape :=
  ⟨⟨by decide, rfl, rfl⟩, by decide, rfl⟩

/-! #### Host accesses -/

theorem witness_RegisterReadsGiveFields : torn.cfg.wf = true := by decide

/-- `i = N - 1` and `i = N` (N is 4), the window's last byte, and both outside `READY` and while busy. -/
theorem witness_WindowReadsFramebuffer :
    fbLen window.cfg ≤ 4 ∧ fbLen window.cfg ≤ 2 ^ 21 - 1 ∧ 3 < fbLen window.cfg ∧ window.ctrl = .ready ∧
      window.busy = false ∧ ¬ (uninitP.ctrl = .ready ∧ uninitP.busy = false) ∧ 3 < fbLen uninitP.cfg ∧
      ¬ ((readyP.latched 0x40000000#32).ctrl = .ready ∧ (readyP.latched 0x40000000#32).busy = false) := by decide

/-- Three bytes of a framebuffer: a 32-bit read of its last word early draws three values. -/
theorem witness_WindowReadsFramebuffer_earlyWord :
    let s := State.resetOf { Config.cfgP with width := 8 }
    fbLen s.cfg = 3 ∧ 0 % 4 = 0 ∧ ¬ (s.ctrl = .ready ∧ s.busy = false) ∧ (s.hostRead 0x200000 4).2.draws = 3 := by
  decide

theorem witness_UnsupportedAccessIsInert :
    let s := readyP.hostTurn (.write 0x0#22 1 0x10#32)
    let t := readyP.hostTurn (.read 0x200002#22 4)
    let u := readyP.hostTurn (.read 0x4#22 1)
    (s.cfg.wf = true ∧ s.turn = .host ∧ s.hostOp = some (.write 0x0#22 1 0x10#32) ∧
      ¬ (1 = 4 ∧ (0x0#22).toNat % 4 = 0)) ∧
    (t.turn = .host ∧ t.hostOp = some (.read 0x200002#22 4) ∧ ¬ (4 = 4 ∧ (0x200002#22).toNat % 4 = 0) ∧
      (0x200000 ≤ (0x200002#22).toNat → 4 ≠ 1)) ∧
    (u.turn = .host ∧ u.hostOp = some (.read 0x4#22 1) ∧ ¬ (1 = 4 ∧ (0x4#22).toNat % 4 = 0) ∧
      (0x200000 ≤ (0x4#22).toNat → 1 ≠ 1)) :=
  ⟨⟨by decide, rfl, rfl, by decide⟩, ⟨rfl, rfl, by decide, by decide⟩, rfl, rfl, by decide, by decide⟩

/-- Writes at `RESULT` and the window; reads at the first reserved offset, the last before the window, and `FBWIN[N]`. -/
theorem witness_ReservedOffsetsAreInert :
    let s := readyP.hostTurn (.write 0x8#22 4 0x12345678#32)
    let t := readyP.hostTurn (.read 0x10#22 4)
    let u := readyP.hostTurn (.read 0x200004#22 1)
    (s.cfg.wf = true ∧ s.turn = .host ∧ 0x8 ≤ (0x8#22).toNat ∧ s.hostOp = some (.write 0x8#22 4 0x12345678#32)) ∧
    (t.turn = .host ∧ 0x10 ≤ (0x10#22).toNat ∧ (0x1FFFFC#22).toNat < 0x200000 ∧
      t.hostOp = some (.read 0x10#22 4)) ∧
    (u.turn = .host ∧ 0x200000 + fbLen u.cfg ≤ (0x200004#22).toNat ∧ u.hostOp = some (.read 0x200004#22 1)) :=
  ⟨⟨by decide, rfl, by decide, rfl⟩, ⟨rfl, by decide, by decide, rfl⟩, rfl, by decide, rfl⟩

theorem witness_StatusWriteClearsCollide :
    let s := torn.hostTurn (.write 0x4#22 4 0x80#32)
    s.cfg.wf = true ∧ s.hostWrites 0x4#22 0x80#32 ∧ s.collide = true ∧ (0x80#32).toNat / 2 ^ 7 % 2 = 1 :=
  ⟨by decide, ⟨rfl, rfl⟩, rfl, by decide⟩

theorem witness_HostReadsHaveNoEffect :
    let s := uninitP.hostTurn (.read 0x200000#22 4)
    s.cfg.wf = true ∧ s.turn = .host ∧ s.hostOp = some (.read 0x200000#22 4) := ⟨by decide, rfl, rfl⟩

/-- `BRBUSY` taken and not taken, `HALT`, and a host that has halted or is past its program's end. -/
theorem witness_HostBranchesAndHalts :
    let s := readyP.hostTurn (.brBusy 0)
    let b := { s with host := { s.host with lastBusy := true } }
    let h := readyP.hostTurn .halt
    let d := { h with host := { h.host with halted := true } }
    (s.cfg.wf = true ∧ s.turn = .host ∧ s.host.halted = false ∧ s.host.lastBusy = false ∧
      s.host.program[s.host.pc]? = some (.brBusy 0)) ∧
    (b.turn = .host ∧ b.host.halted = false ∧ b.host.lastBusy = true ∧
      b.host.program[b.host.pc]? = some (.brBusy 0)) ∧
    (h.turn = .host ∧ h.host.halted = false ∧ h.host.program[h.host.pc]? = some .halt) ∧
    (d.turn = .host ∧ d.host.halted = true) ∧ (readyP.turn = .host ∧ readyP.host.program.length ≤ readyP.host.pc) :=
  ⟨⟨by decide, rfl, rfl, rfl, rfl⟩, ⟨rfl, rfl, rfl, rfl⟩, ⟨rfl, rfl, rfl⟩, ⟨rfl, rfl⟩, rfl, by decide⟩

/-! #### Reset and whole-machine rules -/

/-- A state whose block is reset in the middle of a command. -/
def resetting : State := { bufP .dispBuf 2 with turns := [.blockReset] }

theorem witness_BlockResetGivesResetValues : resetting.cfg.wf = true ∧ resetting.turn = .blockReset :=
  ⟨by decide, rfl⟩

theorem witness_InvHoldsAtReset : cfgA.wf = true ∧ cfgB.wf = true := ⟨by decide, by decide⟩

theorem witness_StepKeepsInv : ∃ s t, BlockInv s ∧ step s = .next t := by
  obtain ⟨t, h, -⟩ := next_of_any (o := step (readyP.latched 0x40000000#32)) (p := fun _ => true) (by decide)
  exact ⟨_, t, ready_latched_inv _ (by decide), h⟩

/-- A state with a step, one whose sequencer is stuck and one whose host is. -/
theorem witness_NoFaultFromInv :
    BlockInv (readyP.latched 0x40000000#32) ∧ (BlockInv readyP.seqTurn ∧ readyP.seqTurn.turn = .sequencer) ∧
      (BlockInv readyP ∧ readyP.turn = .host ∧ readyP.hostOp = none) :=
  ⟨ready_latched_inv _ (by decide), ⟨inv_env ready_inv _ readyP.host readyP.busAnswers, rfl⟩, ready_inv, rfl, rfl⟩

theorem witness_CtrlChangesOnlyAsTabled : ∃ s t, BlockInv s ∧ step s = .next t ∧ t.ctrl ≠ s.ctrl := by
  obtain ⟨t, h, hp⟩ := next_of_any (o := step (uninitP.latched 0x10000000#32)) (p := fun t => t.ctrl == .initializing)
    (by decide)
  refine ⟨_, t, uninit_latched_inv _ (by decide), h, ?_⟩
  rw [beq_iff_eq.mp hp]
  decide

theorem witness_OnlyBlockResetLeavesFailed :
    ∃ s t, BlockInv s ∧ step s = .next t ∧ s.turn ≠ .blockReset ∧ s.ctrl = .failed ∧ s.rstDone = true := by
  obtain ⟨t, h, -⟩ := next_of_any (o := step (failedP.latched 0x10000000#32)) (p := fun _ => true) (by decide)
  exact ⟨_, t, failed_latched_inv _ (by decide), h, by decide, rfl, rfl⟩

theorem witness_CollideChangesOnlyByHost_set :
    let s := (readyP.latched 0x40000000#32).hostTurn (.write 0x0#22 4 0x21000000#32)
    ∃ t, step s = .next t ∧ s.turn ≠ .blockReset ∧ s.busy = true ∧ s.hostWrites 0x0#22 0x21000000#32 ∧
      t.collide = true := by
  intro s
  obtain ⟨t, h, hp⟩ := next_of_any (o := step s) (p := fun t => t.collide) (by decide)
  exact ⟨t, h, by decide, rfl, ⟨rfl, rfl⟩, hp⟩

theorem witness_CollideChangesOnlyByHost_clear :
    let s := torn.hostTurn (.write 0x4#22 4 0x80#32)
    ∃ t, step s = .next t ∧ s.turn ≠ .blockReset ∧ s.collide = true ∧ t.collide = false := by
  intro s
  obtain ⟨t, h, hp⟩ := next_of_any (o := step s) (p := fun t => !t.collide) (by decide)
  exact ⟨t, h, by decide, rfl, by simpa using hp⟩

theorem witness_CollideChangesOnlyByHost_sequencer :
    (readyP.latched 0x40000000#32).turn = .sequencer ∧ resetting.turn = .blockReset := ⟨rfl, rfl⟩

/-- A frame abandoned in its third byte, and block reset. -/
theorem witness_TornTellsHowDisplayEnded :
    (∃ s t, BlockInv s ∧ step s = .next t ∧ s.ctrl = .rendering ∧ t.ctrl = .ready) ∧
      ∃ s t, BlockInv s ∧ step s = .next t ∧ s.turn = .blockReset := by
  obtain ⟨t, h, hp⟩ := next_of_any (o := step ((bufP .dispBuf 2).answering [.timeout])) (p := fun t => t.ctrl == .ready)
    (by decide)
  obtain ⟨u, hu, -⟩ := next_of_any (o := step resetting) (p := fun _ => true) (by decide)
  exact ⟨⟨_, t, inv_env buffer_inv (bufP .dispBuf 2).turns (bufP .dispBuf 2).host _, h, rfl, beq_iff_eq.mp hp⟩,
    _, u, inv_env buffer_inv _ (bufP .dispBuf 2).host (bufP .dispBuf 2).busAnswers, hu, rfl⟩

theorem witness_LastErrWrittenOnlyAtCommandEnd_end :
    ∃ s t, BlockInv s ∧ step s = .next t ∧ s.turn ≠ .blockReset ∧ t.lastErr ≠ s.lastErr ∧ s.busy = true ∧
      t.busy = false := by
  obtain ⟨t, h, hp⟩ := next_of_any (o := step (readyP.latched 0x10000000#32))
    (p := fun t => t.lastErr == .invalidState && !t.busy) (by decide)
  simp only [Bool.and_eq_true, beq_iff_eq, Bool.not_eq_true'] at hp
  refine ⟨_, t, ready_latched_inv _ (by decide), h, by decide, ?_, rfl, hp.2⟩
  rw [hp.1]
  decide

theorem witness_LastErrWrittenOnlyAtCommandEnd_start :
    ∃ s t, BlockInv s ∧ step s = .next t ∧ s.turn ≠ .blockReset ∧ s.busy = false ∧ t.busy = true := by
  obtain ⟨t, h, hp⟩ := next_of_any (o := step (readyP.hostTurn (.write 0x0#22 4 0x40000000#32))) (p := fun t => t.busy)
    (by decide)
  exact ⟨_, t, inv_env ready_inv _ _ readyP.busAnswers, h, by decide, rfl, hp⟩

theorem witness_ResultWrittenOnlyByXlate : ∃ s t, BlockInv s ∧ step s = .next t ∧ t.result ≠ s.result := by
  obtain ⟨t, h, hp⟩ := next_of_any (o := step (readyP.latched 0x50002009#32)) (p := fun t => t.result == 0x80000304#32)
    (by decide)
  refine ⟨_, t, ready_latched_inv _ (by decide), h, ?_⟩
  rw [beq_iff_eq.mp hp]
  decide

theorem witness_FramebufferWrittenOnlyByPixelCommands :
    ∃ s t, BlockInv s ∧ step s = .next t ∧ s.turn ≠ .blockReset ∧ t.fbByte 3 ≠ s.fbByte 3 := by
  obtain ⟨t, h, hp⟩ := next_of_any (o := step (readyP.latched 0x31002009#32)) (p := fun t => t.fbByte 3 == 0x04#8)
    (by decide)
  refine ⟨_, t, ready_latched_inv _ (by decide), h, by decide, ?_⟩
  rw [beq_iff_eq.mp hp]
  decide

theorem witness_TablesWrittenOnlyByInitBuild :
    ∃ s t, BlockInv s ∧ step s = .next t ∧ s.turn ≠ .blockReset ∧ t.lutValid ≠ s.lutValid := by
  obtain ⟨t, h, hp⟩ := next_of_any (o := step (initP .initBuild 0 true)) (p := fun t => t.lutValid) (by decide)
  refine ⟨_, t, build_inv, h, by decide, ?_⟩
  rw [hp]
  decide

theorem witness_TraceOnlyGrows :
    (∃ t, step resetting = .next t ∧ resetting.turn = .blockReset) ∧
    (∃ t, step (readyP.hostTurn .halt) = .next t ∧ (readyP.hostTurn .halt).turn = .host) ∧
    ∃ t, step (uninitP.latched 0x10000000#32) = .next t ∧ (uninitP.latched 0x10000000#32).turn = .sequencer := by
  obtain ⟨t, h, -⟩ := next_of_any (o := step resetting) (p := fun _ => true) (by decide)
  obtain ⟨u, hu, -⟩ := next_of_any (o := step (readyP.hostTurn .halt)) (p := fun _ => true) (by decide)
  obtain ⟨v, hv, -⟩ := next_of_any (o := step (uninitP.latched 0x10000000#32)) (p := fun _ => true) (by decide)
  exact ⟨⟨t, h, rfl⟩, ⟨u, hu, rfl⟩, v, hv, rfl⟩

theorem witness_HostCannotDisturbRunningCommand :
    let s := (bufP .dispBuf 2).hostTurn (.write 0x0#22 4 0x21000000#32)
    ∃ t, step s = .next t ∧ s.turn = .host ∧ s.busy = true := by
  intro s
  obtain ⟨t, h, -⟩ := next_of_any (o := step s) (p := fun _ => true) (by decide)
  exact ⟨t, h, rfl, rfl⟩

/-! #### Whole commands -/

/-- The sequencer alone. -/
theorem witness_InitRunsToReady :
    let s := (uninitP.latched 0x10000000#32).answering [.ready, .ready, .ready, .ready]
    BlockInv s ∧ s.phase = .exec ∧ opField s.latch = 0x1#4 ∧ s.ctrl = .uninit ∧
      AllWaitsReady s (2 * (s.cfg.initSeq.length - 1)) ∧ RunsThrough s (stepsToMoves s.turns (3 + s.cfg.initSeq.length)) :=
  ⟨inv_env (uninit_latched_inv _ (by decide)) [] uninitP.host _, rfl, by decide, rfl, .inr ⟨rfl, by decide⟩, nofun, nofun⟩

/-- A host that polls `STATUS` once, before the sequencer's first step. -/
def polling (s : State) : State :=
  { s with turns := [.host], host := { HostAgent.none with program := [.read 0x4#22 4] } }

/-- The fault a run of `n` steps stops at, if any. -/
def runFault (n : Nat) (s : State) : Option Fault := faultOf (Host.Core.run Sys2Proof.core n s)

theorem not_stuck_of_runFault {n : Nat} {s : State} (h : runFault n s = none) :
    Host.Core.run Sys2Proof.core n s ≠ Host.Outcome.fault Fault.hostStuck := by
  intro he
  rw [runFault, he] at h
  cases h

/-- The host's read of `STATUS` comes first, and the sequencer's six steps after it. -/
theorem witness_InitRunsToReady_interleaved :
    let s := polling ((uninitP.latched 0x10000000#32).answering [.ready, .ready, .ready, .ready])
    BlockInv s ∧ s.phase = .exec ∧ opField s.latch = 0x1#4 ∧ s.ctrl = .uninit ∧
      AllWaitsReady s (2 * (s.cfg.initSeq.length - 1)) ∧ .host ∈ s.turns.take 7 ∧
      stepsToMoves s.turns (3 + s.cfg.initSeq.length) = 7 ∧ RunsThrough s 7 :=
  ⟨inv_env (uninit_latched_inv _ (by decide)) _ _ _, rfl, by decide, rfl, .inl (by decide), by decide, by decide,
    by decide, fun _ => not_stuck_of_runFault (by decide)⟩

theorem witness_DisplayStreamsWholeFrame :
    let s := (readyP.latched 0x40000000#32).answering (List.replicate 9 .ready)
    BlockInv s ∧ s.phase = .exec ∧ opField s.latch = 0x4#4 ∧ s.ctrl = .ready ∧
      AllWaitsReady s
        (2 * (s.cfg.frameStartSeq.length - 1) + (fbLen s.cfg + 1) + 2 * (s.cfg.frameCommitSeq.length - 1)) ∧
      RunsThrough s
        (stepsToMoves s.turns (1 + s.cfg.frameStartSeq.length + (fbLen s.cfg + 2) + s.cfg.frameCommitSeq.length)) :=
  ⟨inv_env (ready_latched_inv _ (by decide)) [] readyP.host _, rfl, by decide, rfl, .inr ⟨rfl, by decide⟩, nofun, nofun⟩

theorem witness_DisplayStreamsWholeFrame_interleaved :
    let s := polling ((readyP.latched 0x40000000#32).answering (List.replicate 9 .ready))
    BlockInv s ∧ s.phase = .exec ∧ opField s.latch = 0x4#4 ∧ s.ctrl = .ready ∧
      AllWaitsReady s
        (2 * (s.cfg.frameStartSeq.length - 1) + (fbLen s.cfg + 1) + 2 * (s.cfg.frameCommitSeq.length - 1)) ∧
      .host ∈ s.turns.take 12 ∧
      stepsToMoves s.turns (1 + s.cfg.frameStartSeq.length + (fbLen s.cfg + 2) + s.cfg.frameCommitSeq.length) = 12 ∧
      RunsThrough s 12 :=
  ⟨inv_env (ready_latched_inv _ (by decide)) _ _ _, rfl, by decide, rfl, .inl (by decide), by decide, by decide,
    by decide, fun _ => not_stuck_of_runFault (by decide)⟩

end Slice0

end Sys2Proof.Machine
end

namespace Sys2Proof.Machine

/-! ### Decoding: which instruction a word of each kind can name -/

/-- A host word's operation is that of its instruction's row in the opcode table (R95, R98). -/
theorem opField_eq_row (w : CmdWord) : opField w = opField (Laws.RowWord.row (decodeHost w)).value := by
  unfold decodeHost
  split <;> simp only [Laws.RowWord.row] <;> apply BitVec.eq_of_toNat_eq
  case h_16 =>
    have hlt := (opField w).isLt
    simp only [imp_false] at *
    show _ = 15
    omega
  all_goals assumption

theorem decodeHost_eq_nop {w : CmdWord} : decodeHost w = .nop ↔ opField w = 0#4 := by
  constructor <;> intro h
  · rw [opField_eq_row, h]; rfl
  · simp [decodeHost, h]

/-- A host word names a host command (R90, R98). -/
theorem decodeHost_wellFormedFor (w : CmdWord) : (decodeHost w).wellFormedFor .host = true := by
  unfold decodeHost
  split <;> rfl

/-- A table entry ends its table or sends a byte (R100). -/
theorem decodeEntry_cases {e : Entry} {i : Instr} (h : decodeEntry e = .ok i) :
    i = .endSeq ∨ (∃ b, i = .cmd b) ∨ ∃ b, i = .data b := by
  unfold decodeEntry at h
  split at h
  case h_1 => split_ifs at h; cases h; exact .inl rfl
  case h_2 => split_ifs at h; cases h; exact .inr (.inl ⟨_, rfl⟩)
  case h_3 => split_ifs at h; cases h; exact .inr (.inr ⟨_, rfl⟩)
  case h_4 => cases h

theorem microOp_ok {e : Entry} {m : Byte} {i j : Instr} (h : microOp e m i = .ok j) : j = i := by
  unfold microOp at h
  split_ifs at h
  cases h
  rfl

theorem decodeMicro_ne_nop (e : Entry) : decodeMicro e ≠ .ok .nop := by
  intro h
  unfold decodeMicro at h
  split at h
  case h_9 => cases h
  all_goals cases microOp_ok h

/-! ### What the sequencer fetches -/

/-- What the sequencer fetches (R41, R104, R221; log entry 11): `none` where `INIT_BUILD` has no tables to build. -/
inductive Fetched (s : State) : Option Code → Prop
  /-- A micro-operation issued alone. -/
  | alone {e : Entry} (hu : s.uop = some e) : Fetched s (some (.micro e))
  | command (hu : s.uop = none) (hp : s.phase = .exec) (hop : opField s.latch ≠ 0#4) :
      Fetched s (some (.host s.latch))
  | pulse (hu : s.uop = none) (hp : s.phase = .initReset) : Fetched s (some (.micro 0x8000#16))
  | entry (hu : s.uop = none) (hp : s.phase.runsTable = true) {e : Entry} (he : s.phaseTable[s.idx.toNat]? = some e) :
      Fetched s (some (.table e))
  | build (hu : s.uop = none) (hp : s.phase = .initBuild) (hl : s.cfg.strategy = .lut) :
      Fetched s (some (.micro 0xB000#16))
  | noTables (hu : s.uop = none) (hp : s.phase = .initBuild) (hl : s.cfg.strategy ≠ .lut) : Fetched s none
  | buffer (hu : s.uop = none) (hp : s.phase = .dispBufOpen ∨ s.phase = .dispBuf ∨ s.phase = .dispBufClose) :
      Fetched s (some (.micro 0xA000#16))

theorem Fetched.of_tableCode {s : State} {o : Option Code} (hu : s.uop = none) (hp : s.phase.runsTable = true)
    (h : s.tableCode = .ok o) : Fetched s o := by
  unfold State.tableCode at h
  split at h
  · cases h; exact .entry hu hp ‹_›
  · cases h

theorem Fetched.of_fetch {s : State} {o : Option Code} (h : s.fetch = .ok o) : Fetched s o := by
  unfold State.fetch at h
  split at h
  case h_1 e hu => cases h; exact .alone hu
  case h_2 hu =>
    have table (hp : s.phase.runsTable = true) (h : s.tableCode = .ok o) : Fetched s o := .of_tableCode hu hp h
    cases hp : s.phase <;> simp only [hp] at h table
    case idle => cases h
    case exec =>
      split at h
      · cases h
      · cases h; exact .command hu hp ‹_›
    case initReset => cases h; exact .pulse hu hp
    case initBuild =>
      split at h <;> cases h
      case isTrue.refl hl => exact .build hu hp hl
      case isFalse.refl hl => exact .noTables hu hp hl
    case dispBufOpen => cases h; exact .buffer hu (.inl hp)
    case dispBuf => cases h; exact .buffer hu (.inr (.inl hp))
    case dispBufClose => cases h; exact .buffer hu (.inr (.inr hp))
    all_goals exact table rfl h

/-- The sequencer fetches no `NOP` (R220, R221). -/
theorem Fetched.decode_ne_nop {s : State} {c : Code} (hf : Fetched s (some c)) : decode c ≠ .ok .nop := by
  intro hd
  cases hf with
  | alone => exact decodeMicro_ne_nop _ hd
  | command _ _ hop => exact hop (decodeHost_eq_nop.mp (Except.ok.inj hd))
  | entry => obtain h | ⟨b, h⟩ | ⟨b, h⟩ := decodeEntry_cases hd <;> cases h
  | pulse => cases hd
  | build => cases hd
  | buffer => cases hd

/-! ### The step as its turn's outcome -/

/-- What an agent's turn comes to as an outcome of the step. -/
def Issue.outcome : Issue → Host.Outcome State Fault Refusal
  | .run i inBuild t => afterRun inBuild (exec i t)
  | .done t => .next t
  | .stop f => .fault f

theorem step_eq_outcome {s : State} (hw : s.cfg.wf = true) : step s = s.issue.outcome := by
  simp only [step, hw, if_true]
  cases s.issue <;> rfl

theorem step_blockReset {s t : State} (ht : s.turn = .blockReset) (h : step s = .next t) :
    t = s.turnTaken.blockReset := by
  rw [step_of_done (step_next h).1 (State.issue_blockReset ht)] at h
  exact (Host.Outcome.next.inj h).symm

/-- Inversion of the sequencer's turn: no word to fetch, or a fetched word's instruction. -/
theorem step_sequencer_next {s t : State} (ht : s.turn = .sequencer) (h : step s = .next t) :
    (Fetched s none ∧ t = s.turnTaken.buildDone) ∨
    ∃ c i v, Fetched s (some c) ∧ decode c = .ok i ∧ exec i { s.turnTaken with uop := none } = .next v ∧
      t = if s.inBuild then v.buildDone else v := by
  have hfetch : s.turnTaken.fetch = s.fetch := rfl
  rw [step_eq_outcome (step_next h).1, State.issue_sequencer ht, State.sequencerIssue, hfetch] at h
  split at h
  next => cases h
  next hf => cases h; exact .inl ⟨.of_fetch hf, rfl⟩
  next c hf =>
    split at h
    next => cases h
    next i hd =>
      obtain ⟨v, hv, hvt⟩ := afterRun_next h
      exact .inr ⟨c, i, v, .of_fetch hf, hd, hv, hvt⟩

/-! ### What the commands do -/

theorem State.setBit_ok {s t : State} {a : PixelAddr} {c : Bool} (h : s.setBit a c = .ok t) :
    ∃ v, t = s.writeFb a.idx v := by
  unfold State.setBit at h
  split at h
  · exact ⟨_, (Except.ok.inj h).symm⟩
  · split at h <;> cases h

/-- What a latched command does (R224-R243): `INIT` and `DISPLAY` start in their own state of the controller; every
other command, and these two elsewhere, ends at once, having written at most the framebuffer and `RESULT`. -/
theorem exec_command_cases {i : Instr} {s t : State} (hi : i.wellFormedFor .host = true) (hn : i ≠ .nop)
    (h : exec i s = .next t) :
    (i = .init ∧ s.ctrl = .uninit ∧ t = { s with ctrl := .initializing }.driveInactive.goto .initReset 0) ∨
    (i = .display ∧ s.ctrl = .ready ∧ t = { s with ctrl := .rendering }.goto .dispStart 0) ∨
    ∃ f r c, t = { s with fb := f, result := r }.finish c := by
  cases i <;> simp only [exec, Instr.wellFormedFor, Bool.false_eq_true] at hi h
  case nop => exact absurd rfl hn
  case init =>
    unfold execInit at h
    split at h
    case isTrue hc => cases h; exact .inl ⟨rfl, hc, rfl⟩
    case isFalse => cases h; exact .inr (.inr ⟨_, _, _, rfl⟩)
  case display =>
    unfold execDisplay at h
    split at h
    case isTrue hc => cases h; exact .inr (.inl ⟨rfl, hc, rfl⟩)
    case isFalse => cases h; exact .inr (.inr ⟨_, _, _, rfl⟩)
  case clear c =>
    unfold execClear at h
    split at h <;> cases h <;> exact .inr (.inr ⟨_, _, _, rfl⟩)
  case xlate x y =>
    unfold execXlate at h
    split at h
    · split at h <;> cases h <;> exact .inr (.inr ⟨_, _, _, rfl⟩)
    · cases h; exact .inr (.inr ⟨_, _, _, rfl⟩)
  case setPixel x y c =>
    unfold execSetPixel at h
    split at h
    · split at h
      · cases h
      · cases h; exact .inr (.inr ⟨_, _, _, rfl⟩)
      · split at h
        · cases h
        · obtain ⟨v, rfl⟩ := State.setBit_ok ‹_›
          cases h; exact .inr (.inr ⟨_, _, _, rfl⟩)
    · cases h; exact .inr (.inr ⟨_, _, _, rfl⟩)
  all_goals cases h; exact .inr (.inr ⟨_, _, _, rfl⟩)

/-! ### What the sequencer's turn can be -/

/-- A step of the sequencer from a state of the invariant, by the phase it is in (R41, R221); `s.turnTaken` is `s`
with its turn taken off the schedule. -/
inductive SequencerMove (s : State) : State → Prop
  /-- `EXEC`: the latched command (R221). -/
  | command {t : State} (hp : s.phase = .exec) (hop : opField s.latch ≠ 0#4)
      (h : exec (decodeHost s.latch) s.turnTaken = .next t) : SequencerMove s t
  /-- `INIT_RESET` (R130). -/
  | pulsed (hp : s.phase = .initReset) : SequencerMove s s.turnTaken.pulseReset
  /-- `CMD b` or `DATA b` of a protocol table (R140). -/
  | sent (dc : Level) (b : Byte) (hp : s.phase.runsTable = true) :
      SequencerMove s (State.afterEntry (s.turnTaken.sendByte dc b))
  /-- `END` of `INIT_SEQ` (R141). -/
  | initSeqEnded (hp : s.phase = .initSeq) : SequencerMove s (s.turnTaken.goto .initBuild 0)
  /-- `END` of `FRAME_START_SEQ` (R141). -/
  | frameStarted (hp : s.phase = .dispStart) : SequencerMove s (s.turnTaken.goto .dispBufOpen 0)
  /-- `END` of `FRAME_COMMIT_SEQ` (R141, R238). -/
  | frameCommitted (hp : s.phase = .dispCommit) : SequencerMove s s.turnTaken.displayDone
  /-- `INIT_BUILD` with tables to build (R227). -/
  | built (hp : s.phase = .initBuild) (hl : s.cfg.strategy = .lut) : SequencerMove s s.turnTaken.buildLut.buildDone
  /-- `INIT_BUILD` without (R227). -/
  | notBuilt (hp : s.phase = .initBuild) (hl : s.cfg.strategy ≠ .lut) : SequencerMove s s.turnTaken.buildDone
  /-- `SEND_BUFFER` open (R126). -/
  | opened (hp : s.phase = .dispBufOpen) : SequencerMove s s.turnTaken.openBuffer
  /-- `SEND_BUFFER` byte (R127). -/
  | streamed (hp : s.phase = .dispBuf) : SequencerMove s s.turnTaken.streamByte
  /-- `SEND_BUFFER` close (R128). -/
  | closed (hp : s.phase = .dispBufClose) : SequencerMove s s.turnTaken.closeBuffer

theorem State.inBuild_of_phase_ne {s : State} (hp : s.phase ≠ .initBuild) : s.inBuild = false := by
  simp [State.inBuild, hp]

theorem State.turnTaken_uop_none {s : State} (hu : s.uop = none) :
    ({ s.turnTaken with uop := none } : State) = s.turnTaken := by
  cases s; cases hu; rfl

/-- A protocol table's entry is sent, or ends the table (R140, R141). -/
theorem SequencerMove.of_entry {s t : State} {e : Entry} {i : Instr} (hp : s.phase.runsTable = true)
    (hd : decodeEntry e = .ok i) (h : exec i s.turnTaken = .next t) : SequencerMove s t := by
  have sends {dc b} (h : s.turnTaken.sendEntry dc b = .next t) : SequencerMove s t := by
    unfold State.sendEntry at h
    split_ifs at h
    cases h
    exact .sent dc b hp
  obtain rfl | ⟨b, rfl⟩ | ⟨b, rfl⟩ := decodeEntry_cases hd
  · cases hs : s.phase <;> simp only [exec, execEndSeq, State.turnTaken_phase, hs] at h <;> cases h
    · exact .initSeqEnded hs
    · exact .frameStarted hs
    · exact .frameCommitted hs
  · exact sends h
  · exact sends h

/-- The part of `SEND_BUFFER` its phase says (R126, R127, R128). -/
theorem SequencerMove.of_sendBuffer {s t : State}
    (hp : s.phase = .dispBufOpen ∨ s.phase = .dispBuf ∨ s.phase = .dispBufClose)
    (h : execSendBuffer s.turnTaken = .next t) : SequencerMove s t := by
  obtain hp | hp | hp := hp <;> simp only [execSendBuffer, State.turnTaken_phase, hp] at h
  · cases h; exact .opened hp
  · split at h
    · cases h; exact .streamed hp
    · cases h
  · cases h; exact .closed hp

theorem SequencerMove.of_step {s t : State} (hi : BlockInv s) (ht : s.turn = .sequencer) (h : step s = .next t) :
    SequencerMove s t := by
  have hu := hi.noUop
  obtain ⟨hf, rfl⟩ | ⟨c, i, v, hf, hd, hv, rfl⟩ := step_sequencer_next ht h
  · cases hf with
    | noTables _ hp hl => exact .notBuilt hp hl
  · rw [State.turnTaken_uop_none hu] at hv
    cases hf with
    | alone hu' => rw [hu] at hu'; cases hu'
    | command _ hp hop =>
      cases hd
      rw [State.inBuild_of_phase_ne (by simp [hp])]
      exact .command hp hop hv
    | pulse _ hp =>
      cases hd
      simp only [exec, execResetPulse] at hv
      split at hv <;> cases hv
      rw [State.inBuild_of_phase_ne (by simp [hp])]
      exact .pulsed hp
    | entry _ hp =>
      rw [State.inBuild_of_phase_ne fun h => by simp [h, Phase.runsTable] at hp]
      exact .of_entry hp hd hv
    | build _ hp hl =>
      cases hd
      simp only [exec, execLutBuild, State.turnTaken_cfg, hl, if_true] at hv
      cases hv
      rw [show s.inBuild = true by simp [State.inBuild, hu, hp]]
      exact .built hp hl
    | buffer _ hp =>
      cases hd
      rw [State.inBuild_of_phase_ne fun h => by simp [h] at hp]
      exact .of_sendBuffer hp hv

/-! ### `CTRL` and `TORN` -/

/-- A transaction changes only lines, `TCOUNT`, the bus's answers and the trace (R123, R124). -/
theorem State.sendByte_state (s : State) (dc : Level) (b : Byte) :
    ∃ n a d tr, (s.sendByte dc b).2 = { s with
      lineDc := dc, lineCs := csInactive s.cfg, txnOpen := false, tcount := n, busAnswers := a, draws := d
      trace := tr } := by
  obtain ⟨h₀, h₁⟩ | h₀ | ⟨h₀, h₁⟩ := s.answers_cases
  · rw [s.sendByte_ready dc b h₀ h₁]; exact ⟨_, _, _, _, rfl⟩
  · rw [s.sendByte_acceptTimeout dc b h₀]; exact ⟨_, _, _, _, rfl⟩
  · rw [s.sendByte_completeTimeout dc b h₀ h₁]; exact ⟨_, _, _, _, rfl⟩

/-- `INIT`'s phases run in `INITIALIZING` (R22). -/
theorem BlockInv.initializing {s : State} (hi : BlockInv s) (hp : s.phase = .initSeq ∨ s.phase = .initBuild) :
    s.ctrl = .initializing := by
  have hctrl := hi.ctrl
  obtain hp | hp := hp <;> simpa only [PhaseMatchesCtrl, hp] using hctrl

/-- `DISPLAY`'s phases run in `RENDERING` (R22). -/
theorem BlockInv.rendering {s : State} (hi : BlockInv s)
    (hp : s.phase = .dispStart ∨ s.phase = .dispBuf ∨ s.phase = .dispBufClose ∨ s.phase = .dispCommit) :
    s.ctrl = .rendering := by
  have hctrl := hi.ctrl
  obtain hp | hp | hp | hp := hp <;> simpa only [PhaseMatchesCtrl, hp] using hctrl

theorem Phase.runsTable_iff (p : Phase) :
    p.runsTable = true ↔ p = .initSeq ∨ p = .dispStart ∨ p = .dispCommit := by
  cases p <;> decide

/-- The rows of R23's table that the sequencer takes, each with what it does to `TORN` (R28); `kept` is every other
move of the sequencer and of the host. -/
inductive CtrlRow (s t : State) : Prop
  | kept (hc : t.ctrl = s.ctrl) (ht : t.torn = s.torn)
  | initStarted (hp : s.phase = .exec) (hop : opField s.latch = 0x1#4) (hs : s.ctrl = .uninit)
      (hc : t.ctrl = .initializing) (ht : t.torn = s.torn)
  | initDone (hp : s.phase = .initBuild) (hs : s.ctrl = .initializing) (hc : t.ctrl = .ready) (he : t.lastErr = .none)
      (ht : t.torn = s.torn)
  | initFailed (hp : s.phase = .initSeq) (hs : s.ctrl = .initializing) (hc : t.ctrl = .failed)
      (he : t.lastErr = .transportTimeout) (ht : t.torn = s.torn)
  | frameStarted (hp : s.phase = .exec) (hop : opField s.latch = 0x4#4) (hs : s.ctrl = .ready)
      (hc : t.ctrl = .rendering) (ht : t.torn = s.torn)
  | frameEnded (hs : s.ctrl = .rendering) (hc : t.ctrl = .ready) (hp : t.phase = .idle)
      (he : (t.lastErr = .transportTimeout ∧ t.torn = true) ∨ (t.lastErr = .none ∧ t.torn = false))

theorem CtrlRow.of_abort {s : State} (r : State) (hs : s.ctrl = .rendering) : CtrlRow s r.displayAbort :=
  .frameEnded hs rfl rfl (.inl ⟨rfl, rfl⟩)

theorem CtrlRow.of_command {s t : State} (hp : s.phase = .exec) (hop : opField s.latch ≠ 0#4)
    (h : exec (decodeHost s.latch) s.turnTaken = .next t) : CtrlRow s t := by
  have hn : decodeHost s.latch ≠ .nop := fun hd => hop (decodeHost_eq_nop.mp hd)
  obtain ⟨hd, hc, rfl⟩ | ⟨hd, hc, rfl⟩ | ⟨f, r, c, rfl⟩ :=
    exec_command_cases (decodeHost_wellFormedFor _) hn h
  · exact .initStarted hp (by rw [opField_eq_row, hd]; rfl) hc rfl rfl
  · exact .frameStarted hp (by rw [opField_eq_row, hd]; rfl) hc rfl rfl
  · exact .kept rfl rfl

theorem CtrlRow.of_sent {s : State} (hi : BlockInv s) (hp : s.phase.runsTable = true) (dc : Level) (b : Byte) :
    CtrlRow s (State.afterEntry (s.turnTaken.sendByte dc b)) := by
  obtain ⟨n, a, d, tr, hr⟩ := s.turnTaken.sendByte_state dc b
  unfold State.afterEntry
  rw [hr]
  split
  · exact .kept rfl rfl
  · split
    case isTrue hs => exact .initFailed hs (hi.initializing (.inl hs)) rfl rfl rfl
    case isFalse hs =>
      obtain hp | hp | hp := s.phase.runsTable_iff.mp hp
      · exact absurd hp hs
      · exact .of_abort _ (hi.rendering (.inl hp))
      · exact .of_abort _ (hi.rendering (.inr (.inr (.inr hp))))

@[simp] theorem State.nextByte_ctrl (s : State) : s.nextByte.ctrl = s.ctrl := by unfold State.nextByte; split <;> rfl

@[simp] theorem State.nextByte_torn (s : State) : s.nextByte.torn = s.torn := by unfold State.nextByte; split <;> rfl

theorem SequencerMove.ctrlRow {s t : State} (hi : BlockInv s) (h : SequencerMove s t) : CtrlRow s t := by
  cases h with
  | command hp hop h => exact .of_command hp hop h
  | pulsed => exact .kept (by simp [State.pulseReset_eq]) (by simp [State.pulseReset_eq])
  | sent dc b hp => exact .of_sent hi hp dc b
  | initSeqEnded => exact .kept rfl rfl
  | frameStarted => exact .kept rfl rfl
  | frameCommitted hp => exact .frameEnded (hi.rendering (.inr (.inr (.inr hp)))) rfl rfl (.inr ⟨rfl, rfl⟩)
  | built hp => exact .initDone hp (hi.initializing (.inr hp)) rfl rfl rfl
  | notBuilt hp => exact .initDone hp (hi.initializing (.inr hp)) rfl rfl rfl
  | opened => exact .kept (by simp [State.openBuffer_eq]) (by simp [State.openBuffer_eq])
  | streamed hp =>
    unfold State.streamByte
    split
    · exact .of_abort _ (hi.rendering (.inr (.inl hp)))
    · exact .kept (by simp) (by simp)
  | closed hp =>
    unfold State.closeBuffer
    split
    · exact .of_abort _ (hi.rendering (.inr (.inr (.inl hp))))
    · exact .kept (by simp [State.closeTxn_eq]) (by simp [State.closeTxn_eq])

/-! ### What the host's turn can be -/

/-- A write of `CMD` with any word (R220, R222). -/
def State.writeCmd (s : State) (w : CmdWord) : State :=
  if opField w = 0#4 then (if s.busy then s.collision else s) else s.acceptCmd w

theorem State.writeCmd_of_busy {s : State} (w : CmdWord) (hb : s.busy = true) : s.writeCmd w = s.collision := by
  simp [State.writeCmd, State.acceptCmd, hb]

theorem State.writeCmd_of_idle {s : State} (w : CmdWord) (hb : s.busy = false) :
    s.writeCmd w = if opField w = 0#4 then s else { s with latch := w, busy := true, phase := .exec, idx := 0 } := by
  simp [State.writeCmd, State.acceptCmd, hb]

@[simp] theorem State.writeCmd_ctrl (s : State) (w : CmdWord) : (s.writeCmd w).ctrl = s.ctrl := by
  unfold State.writeCmd State.acceptCmd; split_ifs <;> rfl

@[simp] theorem State.writeCmd_torn (s : State) (w : CmdWord) : (s.writeCmd w).torn = s.torn := by
  unfold State.writeCmd State.acceptCmd; split_ifs <;> rfl

/-- A write of `CMD` sets `COLLIDE` while a command runs, and leaves it otherwise (R27, R220). -/
@[simp] theorem State.writeCmd_collide (s : State) (w : CmdWord) : (s.writeCmd w).collide = (s.busy || s.collide) := by
  cases hb : s.busy
  · rw [State.writeCmd_of_idle w hb]; split <;> rfl
  · rw [State.writeCmd_of_busy w hb]; rfl

@[simp] theorem State.writeStatus_ctrl (s : State) (v : CmdWord) : (s.writeStatus v).ctrl = s.ctrl := by
  unfold State.writeStatus; split <;> rfl

@[simp] theorem State.writeStatus_torn (s : State) (v : CmdWord) : (s.writeStatus v).torn = s.torn := by
  unfold State.writeStatus; split <;> rfl

/-- A write of `STATUS` clears `COLLIDE` where its bit 7 is 1 (R246). -/
@[simp] theorem State.writeStatus_collide (s : State) (v : CmdWord) :
    (s.writeStatus v).collide = (s.collide && !v.getLsbD 7) := by
  unfold State.writeStatus; split <;> simp_all

/-- The state with another schedule and host, the agents that are no part of the block. -/
def State.withAgents (s : State) (tu : List Turn) (ho : HostAgent) : State := { s with turns := tu, host := ho }

section
variable (s : State) (tu : List Turn) (ho : HostAgent)

@[simp] theorem State.withAgents_ctrl : (s.withAgents tu ho).ctrl = s.ctrl := rfl
@[simp] theorem State.withAgents_torn : (s.withAgents tu ho).torn = s.torn := rfl
@[simp] theorem State.withAgents_collide : (s.withAgents tu ho).collide = s.collide := rfl

theorem State.writeCmd_withAgents (w : CmdWord) :
    (s.withAgents tu ho).writeCmd w = (s.writeCmd w).withAgents tu ho := by
  simp only [State.writeCmd, State.acceptCmd, apply_ite (State.withAgents · tu ho)]
  rfl

theorem State.writeStatus_withAgents (v : CmdWord) :
    (s.withAgents tu ho).writeStatus v = (s.writeStatus v).withAgents tu ho := by
  simp only [State.writeStatus, apply_ite (State.withAgents · tu ho)]
  rfl

end

theorem State.turnTaken_hostAdvance (s : State) :
    s.turnTaken.hostAdvance = s.withAgents s.turns.tail { s.host with pc := s.host.pc + 1 } := rfl

/-- A step of the host: it changes what a write of `CMD` or `STATUS` changes, and otherwise nothing of the block but
the count of free values drawn (R68, R220, R246). -/
inductive HostMove (s : State) : State → Prop
  | quiet (hop : ∀ v, ¬ s.hostWrites 0x0#22 v ∧ ¬ s.hostWrites 0x4#22 v) (d : Nat) (ho : HostAgent) :
      HostMove s ({ s with draws := d }.withAgents s.turns.tail ho)
  | command (w : CmdWord) (hw : s.hostWrites 0x0#22 w) (ho : HostAgent) :
      HostMove s ((s.writeCmd w).withAgents s.turns.tail ho)
  | status (v : CmdWord) (hw : s.hostWrites 0x4#22 v) (ho : HostAgent) :
      HostMove s ((s.writeStatus v).withAgents s.turns.tail ho)

theorem State.hostWrite_cmd (s : State) (w : CmdWord) : (s.hostWrite 0 4 w).outcome = .next (s.writeCmd w) := by
  by_cases h : opField w = 0#4
  · simp [State.hostWrite, wordAccess, h, decodeHost_eq_nop.mpr h, Issue.outcome, exec, execNop, afterRun,
      State.writeCmd]
  · simp [State.hostWrite, wordAccess, h, Issue.outcome, State.writeCmd]

theorem State.hostWrite_status (s : State) (v : CmdWord) : s.hostWrite 4 4 v = .done (s.writeStatus v) := rfl

theorem State.hostWrite_elsewhere (s : State) {off n : Nat} (v : CmdWord) (h : n = 4 → off ≠ 0 ∧ off ≠ 4) :
    s.hostWrite off n v = .done s := by
  unfold State.hostWrite
  split
  · rename_i hacc
    obtain ⟨h0, h4⟩ := h (by simpa using (Bool.and_eq_true_iff.mp hacc).1)
    simp [h0, h4]
  · rfl

theorem HostMove.of_write {s t : State} {off : HostOffset} {n : Nat} {v : CmdWord} (ht : s.turn = .host)
    (hop : s.hostOp = some (.write off n v)) (h : (s.turnTaken.hostAdvance.hostWrite off.toNat n v).outcome = .next t) :
    HostMove s t := by
  rw [State.turnTaken_hostAdvance] at h
  by_cases hcmd : n = 4 ∧ off = 0x0#22
  · obtain ⟨rfl, rfl⟩ := hcmd
    rw [show (0x0#22).toNat = 0 from rfl, State.hostWrite_cmd, State.writeCmd_withAgents] at h
    cases h
    exact .command v ⟨ht, hop⟩ _
  by_cases hstatus : n = 4 ∧ off = 0x4#22
  · obtain ⟨rfl, rfl⟩ := hstatus
    rw [show (0x4#22).toNat = 4 from rfl, State.hostWrite_status, State.writeStatus_withAgents] at h
    cases h
    exact .status v ⟨ht, hop⟩ _
  have helse : n = 4 → off.toNat ≠ 0 ∧ off.toNat ≠ 4 := fun hn =>
    ⟨fun h0 => hcmd ⟨hn, BitVec.eq_of_toNat_eq h0⟩, fun h4 => hstatus ⟨hn, BitVec.eq_of_toNat_eq h4⟩⟩
  rw [State.hostWrite_elsewhere _ v helse] at h
  cases h
  have hquiet (o : HostOffset) (w : CmdWord) (hw : s.hostWrites o w) : n = 4 ∧ off = o := by
    have heq := hop.symm.trans hw.2
    simp only [Option.some.injEq, HostOp.write.injEq] at heq
    exact ⟨heq.2.1, heq.1⟩
  exact .quiet (fun w => ⟨fun hw => hcmd (hquiet _ w hw), fun hw => hstatus (hquiet _ w hw)⟩) s.draws _

theorem HostMove.of_step {s t : State} (ht : s.turn = .host) (h : step s = .next t) : HostMove s t := by
  have hop : s.turnTaken.hostOp = s.hostOp := rfl
  rw [step_eq_outcome (step_next h).1, State.issue_host ht, State.hostIssue, hop] at h
  rcases ho : s.hostOp with _ | (⟨off, n⟩ | ⟨off, n, v⟩ | target | _) <;> simp only [ho] at h
  case some.write => exact .of_write ht ho h
  case none => cases h
  all_goals
    have hquiet : ∀ v, ¬ s.hostWrites 0x0#22 v ∧ ¬ s.hostWrites 0x4#22 v := by simp [State.hostWrites, ho]
    cases h
  case some.read =>
    obtain ⟨⟨d, hd⟩, -⟩ := s.turnTaken.hostAdvance.hostRead_frame off.toNat n
    rw [hd]
    exact .quiet hquiet d _
  case some.brBusy =>
    split <;> exact .quiet hquiet s.draws _
  case some.halt => exact .quiet hquiet s.draws _

theorem State.hostWrites_inj {s : State} {o o' : HostOffset} {v v' : CmdWord} (h : s.hostWrites o v)
    (h' : s.hostWrites o' v') : o = o' ∧ v = v' := by
  simpa using h.2.symm.trans h'.2

/-- The host changes neither `CTRL` nor `TORN` (R23, R28). -/
theorem HostMove.ctrl_torn {s t : State} (h : HostMove s t) : t.ctrl = s.ctrl ∧ t.torn = s.torn := by
  cases h with
  | quiet => exact ⟨rfl, rfl⟩
  | command w => simp
  | status v => simp

theorem CtrlRow.of_step {s t : State} (hi : BlockInv s) (h : step s = .next t) (ht : s.turn ≠ .blockReset) :
    CtrlRow s t := by
  cases hturn : s.turn with
  | host =>
    obtain ⟨hc, htorn⟩ := (HostMove.of_step hturn h).ctrl_torn
    exact .kept hc htorn
  | sequencer => exact (SequencerMove.of_step hi hturn h).ctrlRow hi
  | blockReset => exact absurd hturn ht

/-! ### `COLLIDE` and the host -/

/-- Only a write of `CMD` while busy sets `COLLIDE` (R27). -/
theorem HostMove.collide_set {s t : State} (h : HostMove s t) (hc : t.collide = true) :
    s.collide = true ∨ (s.busy = true ∧ ∃ w, s.hostWrites 0x0#22 w) := by
  cases h with
  | quiet => exact .inl hc
  | command w hw =>
    rw [State.withAgents_collide, State.writeCmd_collide, Bool.or_eq_true] at hc
    exact hc.symm.imp_right fun hb => ⟨hb, w, hw⟩
  | status v =>
    rw [State.withAgents_collide, State.writeStatus_collide, Bool.and_eq_true] at hc
    exact .inl hc.1

/-- Only a write of `STATUS` with bit 7 clears `COLLIDE` (R27, R246). -/
theorem HostMove.collide_cleared {s t : State} (h : HostMove s t) (hs : s.collide = true) (hc : t.collide = false) :
    ∃ v, s.hostWrites 0x4#22 v ∧ v.getLsbD 7 = true := by
  cases h with
  | quiet => exact absurd (hs.symm.trans hc) (by decide)
  | command w => simp [hs] at hc
  | status v hv => exact ⟨v, hv, by simpa [hs] using hc⟩

/-- A write of `CMD` while busy does nothing to the block but set `COLLIDE` (R27, R220). -/
theorem HostMove.of_busy_cmd {s t : State} {w : CmdWord} (h : HostMove s t) (hb : s.busy = true)
    (hw : s.hostWrites 0x0#22 w) : ∃ ho, t = s.collision.withAgents s.turns.tail ho := by
  cases h with
  | quiet hop => exact absurd hw (hop w).1
  | command v _ ho => exact ⟨ho, by rw [State.writeCmd_of_busy v hb]⟩
  | status v hv => exact absurd (State.hostWrites_inj hw hv).1 (by decide)

theorem HostMove.collide_of_status {s t : State} {v : CmdWord} (h : HostMove s t) (hv : s.hostWrites 0x4#22 v)
    (h7 : v.getLsbD 7 = true) : t.collide = false := by
  cases h with
  | quiet hop => exact absurd hv (hop v).2
  | command w hw => exact absurd (State.hostWrites_inj hw hv).1 (by decide)
  | status u hu =>
    obtain ⟨-, rfl⟩ := State.hostWrites_inj hu hv
    simp [h7]

/-! ### The instructions and `COLLIDE` -/

/-- The state with another value of `COLLIDE`. -/
def State.withCollide (s : State) (b : Bool) : State := { s with collide := b }

/-- An outcome with its next state changed by `f`. -/
def mapNext (f : State → State) : Host.Outcome State Fault Refusal → Host.Outcome State Fault Refusal
  | .next t => .next (f t)
  | .fault r => .fault r
  | .refused r => .refused r

section
variable (s : State) (b : Bool)

@[simp] theorem State.withCollide_phase : (s.withCollide b).phase = s.phase := rfl
@[simp] theorem State.withCollide_latchX : (s.withCollide b).latchX = s.latchX := rfl
@[simp] theorem State.withCollide_latchY : (s.withCollide b).latchY = s.latchY := rfl
@[simp] theorem State.withCollide_latchColour : (s.withCollide b).latchColour = s.latchColour := rfl
@[simp] theorem State.withCollide_nextAnswer : (s.withCollide b).nextAnswer = s.nextAnswer := rfl
@[simp] theorem State.withCollide_translate (x y : Nat) : (s.withCollide b).translate x y = s.translate x y := rfl

/-- A transaction neither reads nor writes `COLLIDE` (R123). -/
theorem State.withCollide_sendByte (dc : Level) (v : Byte) :
    (s.withCollide b).sendByte dc v = ((s.sendByte dc v).1, (s.sendByte dc v).2.withCollide b) := by
  obtain ⟨h₀, h₁⟩ | h₀ | ⟨h₀, h₁⟩ := s.answers_cases
  · rw [s.sendByte_ready dc v h₀ h₁, (s.withCollide b).sendByte_ready dc v h₀ h₁]; rfl
  · rw [s.sendByte_acceptTimeout dc v h₀, (s.withCollide b).sendByte_acceptTimeout dc v h₀]; rfl
  · rw [s.sendByte_completeTimeout dc v h₀ h₁, (s.withCollide b).sendByte_completeTimeout dc v h₀ h₁]; rfl

theorem State.withCollide_afterEntry (r : Wait × State) :
    State.afterEntry (r.1, r.2.withCollide b) = (State.afterEntry r).withCollide b := by
  cases h : r.1 with
  | ready => simp only [State.afterEntry, h]; rfl
  | timeout => simp only [State.afterEntry, h, apply_ite (State.withCollide · b)]; rfl

theorem State.withCollide_sendEntry (dc : Level) (v : Byte) :
    (s.withCollide b).sendEntry dc v = mapNext (·.withCollide b) (s.sendEntry dc v) := by
  simp only [State.sendEntry, apply_ite (mapNext _), State.withCollide_sendByte, State.withCollide_afterEntry]
  rfl

theorem State.withCollide_nextByte : (s.withCollide b).nextByte = s.nextByte.withCollide b := by
  simp only [State.nextByte, apply_ite (State.withCollide · b)]; rfl

theorem State.withCollide_streamByte : (s.withCollide b).streamByte = s.streamByte.withCollide b := by
  cases h : s.nextAnswer with
  | ready =>
    simp only [State.streamByte, State.withCollide_nextAnswer, h, ← State.withCollide_nextByte]; rfl
  | timeout => simp only [State.streamByte, State.withCollide_nextAnswer, h]; rfl

theorem State.withCollide_closeBuffer : (s.withCollide b).closeBuffer = s.closeBuffer.withCollide b := by
  cases h : s.nextAnswer <;> simp only [State.closeBuffer, State.withCollide_nextAnswer, h] <;> rfl

theorem State.withCollide_setBit (a : PixelAddr) (c : Bool) :
    (s.withCollide b).setBit a c = (s.setBit a c).map (·.withCollide b) := by
  simp only [State.setBit, apply_ite (Except.map _)]; rfl

theorem exec_withCollide {i : Instr} (hn : i ≠ .nop) :
    exec i (s.withCollide b) = mapNext (·.withCollide b) (exec i s) := by
  cases i
  case nop => exact absurd rfl hn
  case init => simp only [exec, execInit, apply_ite (mapNext _)]; rfl
  case clear c => simp only [exec, execClear, apply_ite (mapNext _)]; rfl
  case display => simp only [exec, execDisplay, apply_ite (mapNext _)]; rfl
  case setPixel x y c =>
    simp only [exec, execSetPixel, apply_ite (mapNext _), State.withCollide_translate, State.withCollide_setBit]
    rcases s.translate x.toNat y.toNat with f | (_ | a)
    · rfl
    · rfl
    · cases ht : s.setBit a c <;> simp only [ht] <;> rfl
  case xlate x y =>
    simp only [exec, execXlate, apply_ite (mapNext _), State.withCollide_translate]
    rcases s.translate x.toNat y.toNat with f | (_ | a) <;> rfl
  case endSeq => cases hp : s.phase <;> simp only [exec, execEndSeq, State.withCollide_phase, hp] <;> rfl
  case cmd v => exact s.withCollide_sendEntry b _ v
  case data v => exact s.withCollide_sendEntry b _ v
  case resetPulse => simp only [exec, execResetPulse, apply_ite (mapNext _)]; rfl
  case sendBuffer =>
    cases hp : s.phase <;>
      simp only [exec, execSendBuffer, State.withCollide_phase, hp, State.withCollide_streamByte,
        State.withCollide_closeBuffer, apply_ite (mapNext _)] <;> rfl
  case lutBuild => simp only [exec, execLutBuild, apply_ite (mapNext _)]; rfl
  case fbSetbit =>
    simp only [exec, execFbSetbit, State.withCollide_latchX, State.withCollide_latchY, State.withCollide_latchColour,
      State.withCollide_translate, State.withCollide_setBit]
    rcases s.translate s.latchX.toNat s.latchY.toNat with f | (_ | a)
    · rfl
    · rfl
    · cases ht : s.setBit a s.latchColour <;> simp only [ht] <;> rfl
  all_goals rfl

theorem afterRun_mapNext_withCollide (inBuild : Bool) (o : Host.Outcome State Fault Refusal) :
    afterRun inBuild (mapNext (·.withCollide b) o) = mapNext (·.withCollide b) (afterRun inBuild o) := by
  cases o <;> cases inBuild <;> rfl

/-- No step of the sequencer depends on `COLLIDE` or changes it (R27). -/
theorem step_withCollide (ht : s.turn = .sequencer) :
    step (s.withCollide b) = mapNext (·.withCollide b) (step s) := by
  cases hw : s.cfg.wf with
  | false => rw [step_illFormed hw, step_illFormed (s := s.withCollide b) hw]; rfl
  | true =>
    have hfetch : (s.withCollide b).turnTaken.fetch = s.turnTaken.fetch := rfl
    rw [step_eq_outcome hw, step_eq_outcome (s := s.withCollide b) hw, State.issue_sequencer ht,
      State.issue_sequencer (s := s.withCollide b) ht, State.sequencerIssue, State.sequencerIssue, hfetch]
    rcases hf : s.turnTaken.fetch with f | (_ | c)
    · rfl
    · rfl
    · cases hd : decode c with
      | error r => simp only [hd]; rfl
      | ok i =>
        have hn : i ≠ .nop := fun h => (Fetched.of_fetch hf).decode_ne_nop (h ▸ hd)
        have hexec := exec_withCollide { s.turnTaken with uop := none } b hn
        simp only [hd]
        exact (congrArg (afterRun s.inBuild) hexec).trans (afterRun_mapNext_withCollide b s.inBuild _)

end

theorem step_sequencer_collide {s t : State} (ht : s.turn = .sequencer) (h : step s = .next t) :
    t.collide = s.collide := by
  have heq := step_withCollide s s.collide ht
  rw [show s.withCollide s.collide = s from rfl, h] at heq
  have hsame : t = t.withCollide s.collide := Host.Outcome.next.inj heq
  rw [hsame]
  rfl

/-! ### The obligations -/

/-- Settles O47: by whose turn it is; the sequencer's moves are the rows of R23's table. -/
theorem ctrlChangesOnlyAsTabled : Obligations.CtrlChangesOnlyAsTabled := by
  intro s t hi h hne
  cases hturn : s.turn with
  | blockReset => rw [step_blockReset hturn h]; exact .inl ⟨rfl, rfl⟩
  | host => exact absurd (HostMove.of_step hturn h).ctrl_torn.1 hne
  | sequencer =>
    right
    cases (SequencerMove.of_step hi hturn h).ctrlRow hi with
    | kept hc => exact absurd hc hne
    | initStarted hp hop hs hc => exact .inl ⟨hs, ⟨hturn, hp, hop⟩, hc⟩
    | initDone hp hs hc he => exact .inr (.inl ⟨rfl, hs, hp, hc, he⟩)
    | initFailed hp hs hc he => exact .inr (.inr (.inl ⟨rfl, hs, hp, hc, he⟩))
    | frameStarted hp hop hs hc => exact .inr (.inr (.inr (.inl ⟨hs, ⟨hturn, hp, hop⟩, hc⟩)))
    | frameEnded hs hc hp he =>
      exact .inr (.inr (.inr (.inr ⟨rfl, hs, hc, hp, he.symm.imp And.left And.left⟩)))

/-- Settles O49: the host's moves one by one, and `step_withCollide` for the sequencer's. -/
theorem collideChangesOnlyByHost : Obligations.CollideChangesOnlyByHost := by
  refine ⟨fun s t h => ⟨?reset, ?set, ?busy, ?status, ?cleared⟩, ?sequencer⟩
  case reset =>
    intro ht
    rw [step_blockReset ht h]
    rfl
  case set =>
    intro ht hc
    cases hturn : s.turn with
    | blockReset => exact absurd hturn ht
    | host => exact (HostMove.of_step hturn h).collide_set hc
    | sequencer => exact .inl (step_sequencer_collide hturn h ▸ hc)
  case busy =>
    rintro hb ⟨w, hw⟩
    exact (HostMove.of_step hw.1 h).of_busy_cmd hb hw
  case status =>
    rintro ⟨v, hv, h7⟩
    exact (HostMove.of_step hv.1 h).collide_of_status hv h7
  case cleared =>
    intro ht hs hc
    cases hturn : s.turn with
    | blockReset => exact absurd hturn ht
    | host => exact (HostMove.of_step hturn h).collide_cleared hs hc
    | sequencer =>
      rw [step_sequencer_collide hturn h, hs] at hc
      cases hc
  case sequencer =>
    intro s b ht
    have heq : step { s with collide := b } = mapNext (·.withCollide b) (step s) := step_withCollide s b ht
    rw [heq]
    cases step s <;> rfl

/-- Settles O50: the rows of R23's table again, each with what it does to `TORN`. -/
theorem tornTellsHowDisplayEnded : Obligations.TornTellsHowDisplayEnded := by
  intro s t hi h
  split_ifs with ht hends
  · rw [step_blockReset ht h]
    rfl
  · obtain ⟨hs, hc⟩ := hends
    -- No other row leads from `RENDERING` to `READY`.
    cases CtrlRow.of_step hi h ht with
    | frameEnded _ _ _ he => exact he
    | _ => simp_all
  · cases CtrlRow.of_step hi h ht with
    | frameEnded hs hc => exact absurd ⟨hs, hc⟩ hends
    | _ => assumption

end Sys2Proof.Machine

namespace Sys2Proof.Machine

/-! ### Host accesses that reach no register and no byte of the framebuffer -/

/-- A read of a width or alignment that is not supported gives 0 in every lane (R64). -/
theorem State.hostRead_unsupported (s : State) {off n : Nat} (hword : ¬ (n = 4 ∧ off % 4 = 0))
    (hbyte : windowBase ≤ off → n ≠ 1) : s.hostRead off n = (List.replicate n 0, s) := by
  have hacc : wordAccess off n = false := by simpa [wordAccess] using hword
  unfold State.hostRead
  split
  · simp [hacc]
  · simp [hacc, hbyte (by omega)]

/-- Past the framebuffer the window reads as 0 (R69). -/
theorem State.readWindow_beyond (s : State) (n : Nat) : ∀ {i : Nat}, fbLen s.cfg ≤ i →
    s.readWindow i n = (List.replicate n 0, s) := by
  induction n with
  | zero => exact fun _ => rfl
  | succ n ih =>
    intro i hi
    have hb : s.readWindowByte i = (0, s) := by simp [State.readWindowByte, hi]
    simp [State.readWindow, hb, ih (Nat.le_succ_of_le hi), List.replicate_succ]

/-- A read of a reserved offset gives 0 in every lane, whatever its width (R62, R64). -/
theorem State.hostRead_reserved (s : State) {off n : Nat}
    (h : (0x10 ≤ off ∧ off < windowBase) ∨ windowBase + fbLen s.cfg ≤ off) :
    s.hostRead off n = (List.replicate n 0, s) := by
  obtain ⟨hlo, hhi⟩ | hbeyond := h
  · by_cases hword : n = 4 ∧ off % 4 = 0
    · obtain ⟨rfl, hal⟩ := hword
      have hreg : s.registerWord off = 0 := by
        simp [State.registerWord, show off ≠ 0x4 by omega, show off ≠ 0x8 by omega, show off ≠ 0xC by omega]
      simp [State.hostRead, hhi, wordAccess, hal, hreg, lanesOfWord]
    · exact s.hostRead_unsupported hword (by omega)
  · have hwin : ¬ off < windowBase := by omega
    rw [State.hostRead, if_neg hwin, s.readWindow_beyond n (show fbLen s.cfg ≤ off - windowBase by omega), ite_self]

/-- Only a 32-bit read of `STATUS` changes the bit `BRBUSY` goes by (R106). -/
theorem State.recordRead_elsewhere (s : State) {off : HostOffset} {lanes : List Byte}
    (h : ¬ (off = 0x4 ∧ lanes.length = 4)) :
    s.recordRead off lanes = { s with host := { s.host with reads := s.host.reads ++ [⟨off, lanes⟩] } } := by
  simp only [State.recordRead, if_neg h]

theorem step_host_read {s : State} {off : HostOffset} {n : Nat} (hw : s.cfg.wf = true) (ht : s.turn = .host)
    (hop : s.hostOp = some (.read off n)) :
    step s = .next (((s.hostRead off.toNat n).2.withAgents s.turns.tail
      { s.host with pc := s.host.pc + 1 }).recordRead off (s.hostRead off.toNat n).1) := by
  have hop' : s.turnTaken.hostOp = some (.read off n) := hop
  have henv := s.hostRead_env s.turns.tail { s.host with pc := s.host.pc + 1 } off.toNat n
  refine step_of_done hw ?_
  rw [State.issue_host ht, State.hostIssue, hop', State.turnTaken_hostAdvance]
  simp only [State.withAgents, henv]

/-- A read that gives 0 in every lane, other than of `STATUS`, moves only the host's record of it (R68, R331). -/
theorem step_host_read_zeros {s : State} {off : HostOffset} {n : Nat} (hw : s.cfg.wf = true) (ht : s.turn = .host)
    (hop : s.hostOp = some (.read off n)) (hstatus : ¬ (off = 0x4 ∧ n = 4))
    (hzero : s.hostRead off.toNat n = (List.replicate n 0, s)) :
    step s = .next { s with
      turns := s.turns.tail
      host := { s.host with pc := s.host.pc + 1, reads := s.host.reads ++ [⟨off, List.replicate n 0⟩] } } := by
  rw [step_host_read hw ht hop, hzero, State.recordRead_elsewhere _ (by simpa using hstatus)]
  rfl

/-- A write that is no 32-bit one of `CMD` or `STATUS` moves only the host's own position (R62, R64). -/
theorem step_host_write_elsewhere {s : State} {off : HostOffset} {n : Nat} {v : CmdWord} (hw : s.cfg.wf = true)
    (ht : s.turn = .host) (hop : s.hostOp = some (.write off n v)) (h : n = 4 → off.toNat ≠ 0 ∧ off.toNat ≠ 4) :
    step s = .next { s with turns := s.turns.tail, host := { s.host with pc := s.host.pc + 1 } } := by
  have hop' : s.turnTaken.hostOp = some (.write off n v) := hop
  refine step_of_done hw ?_
  rw [State.issue_host ht, State.hostIssue, hop']
  exact State.hostWrite_elsewhere _ v h

/-- Settles O39: such a write is none of `CMD` or `STATUS`, such a read gives zeros. -/
theorem unsupportedAccessIsInert : Obligations.UnsupportedAccessIsInert := by
  intro s off n v hw ht hword
  refine ⟨fun hop => step_host_write_elsewhere hw ht hop (by omega), fun hop hbyte => ?_⟩
  refine step_host_read_zeros hw ht hop ?_ (s.hostRead_unsupported hword hbyte)
  rintro ⟨rfl, rfl⟩
  exact hword (by decide)

/-- Settles O40: `CMD` and `STATUS` lie below `0x8`, and a reserved offset gives zeros at every width. -/
theorem reservedOffsetsAreInert : Obligations.ReservedOffsetsAreInert := by
  intro s off n v hw ht
  refine ⟨fun hlo hop => step_host_write_elsewhere hw ht hop (by omega), fun hres hop => ?_⟩
  refine step_host_read_zeros hw ht hop ?_ (s.hostRead_reserved hres)
  rintro ⟨rfl, -⟩
  have h4 : (0x4 : HostOffset).toNat = 4 := rfl
  omega

end Sys2Proof.Machine

namespace Sys2Proof.Machine

/-! ### The fields of a host word as numbers (R93) -/

section
variable (w : CmdWord)

theorem opField_toNat : (opField w).toNat = w.toNat / 2 ^ 28 := by
  simp only [opField, BitVec.extractLsb'_toNat, Nat.shiftRight_eq_div_pow]
  omega

theorem colourField_eq_decide : colourField w = decide (w.toNat / 2 ^ 24 % 2 = 1) :=
  Nat.testBit_eq_decide_div_mod_eq

theorem yField_eq_ofNat : yField w = BitVec.ofNat 12 (w.toNat / 2 ^ 12 % 2 ^ 12) := by
  apply BitVec.eq_of_toNat_eq
  simp [yField, Nat.shiftRight_eq_div_pow]

theorem xField_eq_ofNat : xField w = BitVec.ofNat 12 (w.toNat % 2 ^ 12) := by
  apply BitVec.eq_of_toNat_eq
  simp [xField]

end

/-! ### The fields of an entry or code as numbers (R100) -/

section
variable (e : Entry)

theorem kindField_toNat : (kindField e).toNat = e.toNat / 2 ^ 12 := by
  simp only [kindField, BitVec.extractLsb'_toNat, Nat.shiftRight_eq_div_pow]
  omega

theorem rsvField_toNat : (rsvField e).toNat = e.toNat / 2 ^ 8 % 2 ^ 4 := by
  simp only [rsvField, BitVec.extractLsb'_toNat, Nat.shiftRight_eq_div_pow]

theorem byteField_toNat : (byteField e).toNat = e.toNat % 2 ^ 8 := by
  simp only [byteField, BitVec.extractLsb'_toNat, Nat.shiftRight_zero]

theorem byteField_getLsbD_zero : (byteField e).getLsbD 0 = e.getLsbD 0 := by
  simp [byteField]

end

theorem bitByte_toNat (a : Bool) : (bitByte a).toNat = a.toNat := by
  cases a <;> rfl

theorem eq_bitByte_iff (b : Byte) (a : Bool) : b = bitByte a ↔ b &&& ~~~0x01#8 = 0#8 ∧ a = b.getLsbD 0 := by
  revert a b
  decide

section
variable {e : Entry} {n : Nat} (hn : n % 2 ^ 12 = 0)
include hn

/-- `n` stands for a `KIND` in its place: the fields of the code `n | BYTE` (R100, R104). -/
theorem entry_toNat_eq_add_byte_iff (b : Byte) :
    e.toNat = n + b.toNat ↔ (kindField e).toNat = n / 2 ^ 12 ∧ rsvField e = 0#4 ∧ byteField e = b := by
  have hb := b.isLt
  rw [← BitVec.toNat_inj, ← BitVec.toNat_inj, kindField_toNat, rsvField_toNat, byteField_toNat, BitVec.toNat_ofNat]
  omega

theorem entry_toNat_eq_add_bit_iff (a : Bool) :
    e.toNat = n + a.toNat ↔ (kindField e).toNat = n / 2 ^ 12 ∧ rsvField e = 0#4 ∧ byteField e = bitByte a := by
  rw [← bitByte_toNat, entry_toNat_eq_add_byte_iff hn]

theorem entry_toNat_eq_iff :
    e.toNat = n ↔ (kindField e).toNat = n / 2 ^ 12 ∧ rsvField e = 0#4 ∧ byteField e = 0#8 :=
  entry_toNat_eq_add_byte_iff hn 0

end

/-! ### What a checked operation decodes to -/

/-- A check of the decoder: it rejects the word where `p` holds. -/
theorem ite_error_eq_ok_iff {p : Prop} [Decidable p] {r : Reject} {x : Except Reject Instr} {i : Instr} :
    (if p then .error r else x) = .ok i ↔ ¬ p ∧ x = .ok i := by
  split_ifs with h <;> simp [h]

section
variable {e : Entry} {i j : Instr}

theorem microOp_eq_ok_iff {operand : Byte} :
    microOp e operand i = .ok j ↔ rsvField e = 0#4 ∧ byteField e &&& ~~~operand = 0#8 ∧ j = i := by
  simp only [microOp, ite_error_eq_ok_iff]
  simp [eq_comm]

theorem microOp_plain_eq_ok_iff :
    microOp e 0x00#8 i = .ok j ↔ rsvField e = 0#4 ∧ byteField e = 0#8 ∧ j = i := by
  rw [microOp_eq_ok_iff, show ~~~0x00#8 = BitVec.allOnes 8 from rfl, BitVec.and_allOnes]

theorem microOp_byte_eq_ok_iff : microOp e 0xFF#8 i = .ok j ↔ rsvField e = 0#4 ∧ j = i := by
  simp [microOp_eq_ok_iff]

theorem microOp_bit_eq_ok_iff {f : Bool → Instr} :
    microOp e 0x01#8 (f (e.getLsbD 0)) = .ok j ↔ rsvField e = 0#4 ∧ ∃ a, byteField e = bitByte a ∧ j = f a := by
  simp only [microOp_eq_ok_iff, eq_bitByte_iff, byteField_getLsbD_zero, and_assoc, exists_and_left, exists_eq_left]

end

/-! ### The shape of a protocol table (R102) -/

theorem and_highByte (e : Entry) : e &&& 0xFF00#16 = (e >>> 8) <<< 8 := by
  refine BitVec.eq_of_getLsbD_eq fun k hk => ?_
  simp only [BitVec.getLsbD_and, BitVec.getLsbD_shiftLeft, BitVec.getLsbD_ushiftRight]
  interval_cases k <;> simp

theorem entrySends_iff {e : Entry} : entrySends e = true ↔
    (e.toNat / 2 ^ 12 = 1 ∨ e.toNat / 2 ^ 12 = 2) ∧ e.toNat / 2 ^ 8 % 2 ^ 4 = 0 := by
  simp only [entrySends, and_highByte, Bool.or_eq_true, beq_iff_eq, ← BitVec.toNat_inj, BitVec.toNat_shiftLeft,
    BitVec.toNat_ushiftRight, BitVec.toNat_ofNat, Nat.shiftRight_eq_div_pow, Nat.shiftLeft_eq]
  omega

theorem tableShape_cons {e : Entry} {rest : List Entry} (h : rest ≠ []) :
    tableShape (e :: rest) = (entrySends e && tableShape rest) := by
  cases rest with
  | nil => exact absurd rfl h
  | cons => rfl

/-- R102's clauses 2 and 3: the last entry and no other is `END`, and every other sends. -/
theorem tableShape_iff (t : List Entry) : tableShape t = true ↔ t ≠ [] ∧
    ∀ k, ∀ h : k < t.length, (t[k] = 0x0000#16 ↔ k + 1 = t.length) ∧ (k + 1 < t.length → entrySends t[k] = true) := by
  induction t with
  | nil => simp [tableShape]
  | cons e rest ih =>
    rw [← Nat.and_forall_add_one]
    obtain rfl | hne := eq_or_ne rest []
    · simp [tableShape]
    · have hpos : 0 < rest.length := List.length_pos_iff.mpr hne
      have hend : entrySends e = true → e ≠ 0x0000#16 := by rintro h rfl; exact absurd h (by decide)
      simp [tableShape_cons hne, ih, hne, hpos]
      tauto

theorem Config.wf_eq_false_of_table {c : Config}
    (h : tableWf c.initSeq = false ∨ tableWf c.frameStartSeq = false ∨ tableWf c.frameCommitSeq = false) :
    c.wf = false := by
  obtain h | h | h := h <;> simp [Config.wf, h]

/-! ### The obligations -/

/-- Settles O2: by the decoder's cases on `OP`, the fields read as numbers. -/
theorem hostWordsDecodeByOpAlone : Obligations.HostWordsDecodeByOpAlone := by
  intro w
  dsimp only
  rw [← opField_toNat, ← colourField_eq_decide, ← yField_eq_ofNat, ← xField_eq_ofNat]
  refine congrArg Except.ok ?_
  unfold decodeHost
  split
  case h_16 => simp only [imp_false] at *; simp [*]
  all_goals simp [*]

/-- Settles O3: the codes become fields, and the decoder's cases on `KIND` fix the rest. -/
theorem tableEntriesDecodeToThree : Obligations.TableEntriesDecodeToThree := by
  intro e i
  simp only [decode, entry_toNat_eq_add_byte_iff, entry_toNat_eq_iff, Nat.reducePow, Nat.reduceMod, Nat.reduceDiv,
    and_assoc]
  unfold decodeEntry
  split
  case h_4 => simp only [imp_false] at *; simp [*]
  all_goals simp only [*, ite_error_eq_ok_iff]; simp [eq_comm]

/-- Settles O4: the codes become fields, and each `KIND` has its form of operand. -/
theorem microCodesDecodeToEight : Obligations.MicroCodesDecodeToEight := by
  intro e i
  simp only [decode, entry_toNat_eq_add_byte_iff, entry_toNat_eq_add_bit_iff, entry_toNat_eq_iff, Nat.reducePow,
    Nat.reduceMod, Nat.reduceDiv, and_assoc]
  unfold decodeMicro
  split
  case h_4 => rw [microOp_bit_eq_ok_iff]; simp [*]
  case h_7 => rw [microOp_bit_eq_ok_iff]; simp [*]
  case h_9 => simp only [imp_false] at *; simp [*]
  all_goals simp [*, microOp_plain_eq_ok_iff, microOp_byte_eq_ok_iff]

/-- Settles O6: `tableShape_iff` gives R102's clauses, and an ill-formed table makes the configuration ill-formed. -/
theorem tableCheckIsWellFormedness : Obligations.TableCheckIsWellFormedness := by
  refine ⟨fun t => ?_, fun s h => step_illFormed (Config.wf_eq_false_of_table h)⟩
  simp only [tableWf, Bool.and_eq_true, decide_eq_true_eq, tableShape_iff, entrySends_iff, List.getElem?_eq_some_iff]
  refine and_congr_right fun ⟨hlen, _⟩ => ⟨?clauses, ?shape⟩
  case clauses =>
    rintro ⟨-, h⟩
    refine ⟨fun k hk => by simpa [hk] using (h k hk).1, ?_⟩
    rintro k _ hk ⟨hlt, rfl⟩
    exact (h k hlt).2 hk
  case shape =>
    rintro ⟨hend, hsend⟩
    exact ⟨List.length_pos_iff.mp hlen, fun k hk =>
      ⟨by simpa [hk] using hend k hk, fun hlt => hsend k _ hlt ⟨hk, rfl⟩⟩⟩

end Sys2Proof.Machine

namespace Sys2Proof.Machine

/-! ### Codes written as a `KIND` with its operand (R100, R104) -/

/-- A `KIND` in its place leaves the byte of the operand free, so the code's number is a sum. -/
theorem kind_or_byte_toNat {k : Entry} (hk : k.toNat % 2 ^ 8 = 0) (b : Byte) :
    (k ||| b.setWidth 16).toNat = k.toNat + b.toNat := by
  have hshift : k.toNat = (k.toNat / 2 ^ 8) <<< 8 := by rw [Nat.shiftLeft_eq]; omega
  rw [BitVec.toNat_or, BitVec.toNat_setWidth_of_le (by decide), hshift, Nat.shiftLeft_add_eq_or_of_lt b.isLt]

theorem decode_table_cmd (b : Byte) : decode (.table (0x1000#16 ||| b.setWidth 16)) = .ok (.cmd b) :=
  (tableEntriesDecodeToThree _ _).mpr (.inr (.inl ⟨b, kind_or_byte_toNat rfl b, rfl⟩))

theorem decode_table_data (b : Byte) : decode (.table (0x2000#16 ||| b.setWidth 16)) = .ok (.data b) :=
  (tableEntriesDecodeToThree _ _).mpr (.inr (.inr ⟨b, kind_or_byte_toNat rfl b, rfl⟩))

theorem decode_micro_setRstLevel (a : Bool) :
    decode (.micro (0x9000#16 ||| (bitByte a).setWidth 16)) = .ok (.setRstLevel a) := by
  have hnum : (0x9000#16 ||| (bitByte a).setWidth 16).toNat = 0x9000 + a.toNat := by
    rw [kind_or_byte_toNat rfl, bitByte_toNat]; rfl
  exact (microCodesDecodeToEight _ _).mpr (.inr (.inr (.inr (.inl ⟨a, hnum, rfl⟩))))

/-! ### A table entry that sends a byte (R140) -/

/-- `CMD b` and `DATA b` are one transaction, with the data/command line at its own level (R123, R124). -/
theorem exec_cmd_or_data (s : State) (b : Byte) (isCmd : Bool) :
    exec (if isCmd then .cmd b else .data b) s =
      s.sendEntry (Level.ofBit (if isCmd then s.cfg.dcCmdLevel else !s.cfg.dcCmdLevel)) b := by
  cases isCmd <;> rfl

theorem State.sendEntry_of_rstDone {s : State} (hp : s.phase.runsTable = true) (hr : s.rstDone = true) (dc : Level)
    (b : Byte) : s.sendEntry dc b = .next (State.afterEntry (s.sendByte dc b)) := by
  simp [State.sendEntry, hp, hr]

theorem State.sendEntry_before_reset {s : State} (hp : s.phase.runsTable = true) (hr : s.rstDone = false) (dc : Level)
    (b : Byte) : s.sendEntry dc b = .fault .resetOrder := by
  simp [State.sendEntry, hp, hr]

/-! ### The waits of the buffer transaction (R127, R128) -/

/-- A wait that ends `TIMEOUT` abandons transaction and frame (R125, R239). -/
theorem State.abandonFrame_eq {s : State} (n : Nat) (h : s.nextAnswer = .timeout) :
    (s.waited n).abortTxn.displayAbort = { s with
      tcount := n, busAnswers := s.busAnswers.tail, draws := s.draws + 1
      trace := s.trace ++ [.abort, .line .cs (csInactive s.cfg)], lineCs := csInactive s.cfg, txnOpen := false
      ctrl := .ready, torn := true, lastErr := .transportTimeout, phase := .idle, idx := 0, busy := false } := by
  rw [State.waited_timeout n h, State.abortTxn_eq]; rfl

theorem State.nextByte_eq (s : State) :
    s.nextByte = { s with
      phase := if s.idx.toNat + 1 < fbLen s.cfg then s.phase else .dispBufClose
      idx := if s.idx.toNat + 1 < fbLen s.cfg then s.idx + 1 else 0 } := by
  unfold State.nextByte
  split <;> rfl

theorem State.streamByte_timeout {s : State} (h : s.nextAnswer = .timeout) :
    s.streamByte = (s.waited s.cfg.tAccept).abortTxn.displayAbort := by
  simp only [State.streamByte, h]

theorem State.streamByte_ready {s : State} (h : s.nextAnswer = .ready) :
    s.streamByte = { s with
      tcount := min s.cfg.tAccept (Config.readyTick s.draws), busAnswers := s.busAnswers.tail, draws := s.draws + 1
      trace := s.trace ++ [.byte (s.fbByte s.idx.toNat)]
      phase := if s.idx.toNat + 1 < fbLen s.cfg then s.phase else .dispBufClose
      idx := if s.idx.toNat + 1 < fbLen s.cfg then s.idx + 1 else 0 } := by
  simp only [State.streamByte, h, State.nextByte_eq, State.waited_ready _ h, State.emit]

theorem State.closeBuffer_timeout {s : State} (h : s.nextAnswer = .timeout) :
    s.closeBuffer = (s.waited s.cfg.tComplete).abortTxn.displayAbort := by
  simp only [State.closeBuffer, h]

theorem State.closeBuffer_ready {s : State} (h : s.nextAnswer = .ready) :
    s.closeBuffer = { s with
      tcount := min s.cfg.tComplete (Config.readyTick s.draws), busAnswers := s.busAnswers.tail, draws := s.draws + 1
      trace := s.trace ++ [.done, .line .cs (csInactive s.cfg)], lineCs := csInactive s.cfg, txnOpen := false
      phase := .dispCommit, idx := 0 } := by
  simp [State.closeBuffer, h, State.waited_ready _ h, State.closeTxn_eq, State.emit, State.goto]

/-! ### `SEND_BUFFER` by the phase it is run in -/

section
variable {s : State}

theorem exec_sendBuffer_open (hp : s.phase = .dispBufOpen) : exec .sendBuffer s = .next s.openBuffer := by
  simp only [exec, execSendBuffer, hp]

theorem exec_sendBuffer_byte (hp : s.phase = .dispBuf) (hi : s.idx.toNat < fbLen s.cfg) :
    exec .sendBuffer s = .next s.streamByte := by
  simp only [exec, execSendBuffer, hp, if_pos hi]

theorem exec_sendBuffer_close (hp : s.phase = .dispBufClose) : exec .sendBuffer s = .next s.closeBuffer := by
  simp only [exec, execSendBuffer, hp]

end

/-! ### The obligations of 40_transport.md -/

/-- Settles O22: a transaction by the answers of its two waits (`State.sendByte_ready` and its two siblings), and what
the table step makes of each. -/
theorem entrySendsItsByte : Obligations.EntrySendsItsByte := by
  refine ⟨fun b => ⟨decode_table_cmd b, decode_table_data b⟩, fun s b isCmd hp => ?_⟩
  intro i dc act inact sent timedOut
  have hexec : exec i s = s.sendEntry dc b := exec_cmd_or_data s b isCmd
  have hdone (hr : s.rstDone = true) : exec i s = .next (State.afterEntry (s.sendByte dc b)) :=
    hexec.trans (State.sendEntry_of_rstDone hp hr dc b)
  have hone : s.busAnswers.tail = s.busAnswers.drop 1 := List.drop_one.symm
  have htwo : s.busAnswers.tail.tail = s.busAnswers.drop 2 := by rw [hone, List.tail_drop]
  refine ⟨fun hr h₀ h₁ => ⟨min s.cfg.tComplete (Config.readyTick (s.draws + 1)), ?ready⟩,
    fun hr h₀ => ⟨s.cfg.tAccept, ?acceptTimeout⟩, fun hr h₀ h₁ => ⟨s.cfg.tComplete, ?completeTimeout⟩,
    fun hr => hexec.trans (State.sendEntry_before_reset hp hr dc b)⟩
  case ready => rw [hdone hr, s.sendByte_ready dc b h₀ h₁, htwo]; rfl
  case acceptTimeout => rw [hdone hr, s.sendByte_acceptTimeout dc b h₀, hone]; rfl
  case completeTimeout => rw [hdone hr, s.sendByte_completeTimeout dc b h₀ h₁, htwo]; rfl

/-- Settles O21: by the three phases that run a table; after the commit table it is `display_done()` (R238). -/
theorem endMovesToNextPhase : Obligations.EndMovesToNextPhase := by
  refine fun s => ⟨fun hp => ?initSeq, fun hp => ?dispStart, fun hp => ?dispCommit⟩
  case initSeq => simp only [exec, execEndSeq, hp, State.goto]
  case dispStart => simp only [exec, execEndSeq, hp, State.goto]
  case dispCommit => simp only [exec, execEndSeq, hp, State.displayDone, State.finish]

/-- Settles O24: `State.pulseReset_eq` is the whole pulse; the assertion of R131 guards it. -/
theorem resetPulseRunsOnce : Obligations.ResetPulseRunsOnce := by
  refine ⟨rfl, fun s => ⟨fun hr => ?_, fun hr => ?_⟩⟩
  · have hexec : exec .resetPulse s = .next s.pulseReset := by simp [exec, execResetPulse, hr]
    rw [hexec, State.pulseReset_eq]; rfl
  · simp [exec, execResetPulse, hr]

/-- Settles O25: `SET_RST_LEVEL` is one drive of the reset line. -/
theorem setRstLevelDrivesReset : Obligations.SetRstLevelDrivesReset :=
  fun _ a => ⟨decode_micro_setRstLevel a, rfl⟩

/-- Settles O26: by `State.openBuffer_eq`. -/
theorem bufferOpens : Obligations.BufferOpens := by
  intro s hp
  rw [exec_sendBuffer_open hp, State.openBuffer_eq]; rfl

/-- Settles O27: by the answer of the accept wait. -/
theorem bufferStreamsByte : Obligations.BufferStreamsByte := by
  intro s hp hi inact
  rw [s.answer_zero, exec_sendBuffer_byte hp hi]
  refine ⟨fun h => ⟨min s.cfg.tAccept (Config.readyTick s.draws), ?ready⟩, fun h => ⟨s.cfg.tAccept, ?timeout⟩⟩
  case ready => rw [State.streamByte_ready h, hp]
  case timeout => rw [State.streamByte_timeout h, State.abandonFrame_eq _ h]; rfl

/-- Settles O28: by the answer of the completion wait. -/
theorem bufferCloses : Obligations.BufferCloses := by
  intro s hp inact
  rw [s.answer_zero, exec_sendBuffer_close hp]
  refine ⟨fun h => ⟨min s.cfg.tComplete (Config.readyTick s.draws), ?ready⟩, fun h => ⟨s.cfg.tComplete, ?timeout⟩⟩
  case ready => rw [State.closeBuffer_ready h]; rfl
  case timeout => rw [State.closeBuffer_timeout h, State.abandonFrame_eq _ h]; rfl

end Sys2Proof.Machine

namespace Sys2Proof.Machine

/-! ### The words of `CLEAR` and `FB_FILL` (R95, R104) -/

theorem decode_host_clear {w : CmdWord} (h : w.toNat / 2 ^ 28 = 2) :
    decode (.host w) = .ok (.clear (decide (w.toNat / 2 ^ 24 % 2 = 1))) := by
  rw [hostWordsDecodeByOpAlone w, h]
  rfl

theorem decode_micro_fbFill (c : Bool) :
    decode (.micro (0xC000#16 ||| (bitByte c).setWidth 16)) = .ok (.fbFill c) := by
  have hnum : (0xC000#16 ||| (bitByte c).setWidth 16).toNat = 0xC000 + c.toNat := by
    rw [kind_or_byte_toNat rfl, bitByte_toNat]; rfl
  exact (microCodesDecodeToEight _ _).mpr
    (.inr (.inr (.inr (.inr (.inr (.inr (.inl ⟨c, hnum, rfl⟩)))))))

/-! ### What they do (R160, R229) -/

theorem exec_fbFill (c : Bool) (s : State) : exec (.fbFill c) s = .next (s.fillFb c) := rfl

theorem exec_clear_ready {s : State} (hr : s.ctrl = .ready) (c : Bool) :
    exec (.clear c) s = .next ((s.fillFb c).finish .none) := by
  simp only [exec, execClear, if_pos hr]

theorem exec_clear_not_ready {s : State} (hr : s.ctrl ≠ .ready) (c : Bool) :
    exec (.clear c) s = .next (s.finish .invalidState) := by
  simp only [exec, execClear, if_neg hr]

/-! ### The obligation of 41_framebuffer.md -/

/-- Settles O14: both operations write the one memory `Memory.fill`, whose contents `Memory.read_fill` gives at every
address. -/
theorem clearFillsFramebuffer : Obligations.ClearFillsFramebuffer := by
  refine ⟨decode_micro_fbFill, fun _ => decode_host_clear, fun s c => ⟨?fills, fun hr => exec_clear_not_ready hr c⟩⟩
  case fills =>
    exact ⟨s.fb.fill (fbLen s.cfg) (fillByte c), exec_fbFill c s, fun hr => exec_clear_ready hr c,
      Memory.read_fill s.fb (fbLen s.cfg) (fillByte c)⟩

end Sys2Proof.Machine

namespace Sys2Proof.Machine

/-! ### Sizes and bounds (R5, R6, R181) -/

theorem Config.wf_sizes {c : Config} (h : c.wf = true) :
    1 ≤ c.width ∧ c.width ≤ 4096 ∧ 1 ≤ c.height ∧ c.height ≤ 4096 := by
  simp only [Config.wf, Bool.and_eq_true, decide_eq_true_eq] at h
  tauto

theorem Config.wf_pixelMap {c : Config} (h : c.wf = true) : c.pixelMap.wf (c.width * c.height) = true := by
  simp only [Config.wf, Bool.and_eq_true] at h
  exact h.2

theorem inBounds_iff {c : Config} {x y : Nat} :
    inBounds c x y = true ↔ x < logicalWidth c ∧ y < logicalHeight c := by
  simp [inBounds]

theorem oorCode_eq (c : Config) : oorCode c = if c.oorPolicy = .report then .outOfRange else .none := by
  unfold oorCode
  cases c.oorPolicy <;> rfl

/-- The orientation only exchanges the two sizes. -/
theorem logicalSize_cases (c : Config) :
    (c.orient = .portrait ∧ logicalWidth c = c.width ∧ logicalHeight c = c.height) ∨
    (c.orient = .landscape ∧ logicalWidth c = c.height ∧ logicalHeight c = c.width) := by
  unfold logicalWidth logicalHeight
  cases c.orient <;> simp

theorem npix_eq_logicalArea (c : Config) : npix c = logicalHeight c * logicalWidth c := by
  obtain ⟨-, hw, hh⟩ | ⟨-, hw, hh⟩ := logicalSize_cases c <;> rw [hw, hh, npix]
  exact Nat.mul_comm _ _

theorem logicalSize_pos {c : Config} (hwf : c.wf = true) : 1 ≤ logicalWidth c ∧ 1 ≤ logicalHeight c := by
  obtain ⟨hw, -, hh, -⟩ := Config.wf_sizes hwf
  obtain ⟨-, hlw, hlh⟩ | ⟨-, hlw, hlh⟩ := logicalSize_cases c <;> rw [hlw, hlh]
  · exact ⟨hw, hh⟩
  · exact ⟨hh, hw⟩

/-- The last column of the last row is the last pixel. -/
theorem lastPixel_eq {c : Config} (hw : 1 ≤ c.width) (hh : 1 ≤ c.height) :
    (c.height - 1) * c.width + (c.width - 1) = npix c - 1 := by
  have harea : c.width ≤ c.height * c.width := Nat.le_mul_of_pos_left _ hh
  rw [Nat.sub_mul, Nat.one_mul, npix, Nat.mul_comm c.width]
  omega

/-! ### `STD_MAP` (R183, R184) -/

section
variable {c : Config} {x y : Nat}

theorem physCol_portrait (h : c.orient = .portrait) : physCol c x y = x := by rw [physCol, h]

theorem physRow_portrait (h : c.orient = .portrait) : physRow c x y = y := by rw [physRow, h]

theorem physCol_landscape (h : c.orient = .landscape) : physCol c x y = y := by rw [physCol, h]

theorem physRow_landscape (h : c.orient = .landscape) : physRow c x y = c.height - 1 - x := by rw [physRow, h]

theorem nidx_std (h : c.pixelMap = .std) : nidx c x y = physRow c x y * c.width + physCol c x y := by rw [nidx, h]

theorem physCol_lt_width (hx : x < logicalWidth c) (hy : y < logicalHeight c) : physCol c x y < c.width := by
  obtain ⟨ho, hw, hh⟩ | ⟨ho, hw, hh⟩ := logicalSize_cases c
  · rw [physCol_portrait ho]; omega
  · rw [physCol_landscape ho]; omega

theorem physRow_lt_height (hx : x < logicalWidth c) (hy : y < logicalHeight c) : physRow c x y < c.height := by
  obtain ⟨ho, hw, hh⟩ | ⟨ho, hw, hh⟩ := logicalSize_cases c
  · rw [physRow_portrait ho]; omega
  · rw [physRow_landscape ho]; omega

/-- Row and column of a native index are its quotient and remainder by `W` (R201). -/
theorem nidx_eq_iff (hm : c.pixelMap = .std) (hx : x < logicalWidth c) (hy : y < logicalHeight c) (n : Nat) :
    nidx c x y = n ↔ n / c.width = physRow c x y ∧ n % c.width = physCol c x y := by
  have hcol := physCol_lt_width hx hy
  rw [Nat.div_mod_unique (by omega), nidx_std hm, Nat.add_comm, Nat.mul_comm]
  simp [hcol]

/-- A coordinate in bounds has its native index among the pixels, under every admitted map (R185, R188). -/
theorem nidx_lt_npix (hwf : c.wf = true) (hx : x < logicalWidth c) (hy : y < logicalHeight c) :
    nidx c x y < npix c := by
  cases hm : c.pixelMap with
  | std =>
    calc nidx c x y = physRow c x y * c.width + physCol c x y := nidx_std hm
      _ < (physRow c x y + 1) * c.width := by rw [Nat.succ_mul]; exact Nat.add_lt_add_left (physCol_lt_width hx hy) _
      _ ≤ c.height * c.width := Nat.mul_le_mul_right _ (physRow_lt_height hx hy)
      _ = npix c := Nat.mul_comm _ _
  | other t =>
    have ht := Config.wf_pixelMap hwf
    simp only [hm, PixelMap.wf, Bool.and_eq_true, beq_iff_eq, List.all_eq_true, decide_eq_true_eq] at ht
    obtain ⟨⟨hlen, hall⟩, -⟩ := ht
    have hpos : y * logicalWidth c + x < t.length :=
      calc y * logicalWidth c + x < (y + 1) * logicalWidth c := by rw [Nat.succ_mul]; exact Nat.add_lt_add_left hx _
        _ ≤ logicalHeight c * logicalWidth c := Nat.mul_le_mul_right _ hy
        _ = t.length := by rw [← npix_eq_logicalArea, hlen, npix]
    rw [nidx, hm]
    simpa [hpos, npix] using hall _ (List.getElem_mem hpos)

theorem div_eight_lt_fbLen {n : Nat} (h : n < npix c) : n / 8 < fbLen c := by
  rw [fbLen, Nat.shiftRight_eq_div_pow]
  omega

end

/-! ### Byte and mask of a native index (R183) -/

theorem maskOf_toNat (n : Nat) : (maskOf n).toNat = 2 ^ (7 - n % 8) := by
  rw [maskOf, BitVec.toNat_ushiftRight, Nat.shiftRight_eq_div_pow]
  exact Nat.pow_div (show n % 8 ≤ 7 by omega) (show 0 < 2 by decide)

theorem maskPos_maskOf (n : Nat) : maskPos (maskOf n) = some (n % 8) := by
  have hpos : ∀ a < 8, maskPos (0x80#8 >>> a) = some a := by decide
  exact hpos _ (Nat.mod_lt _ (by decide))

/-- Byte index and mask determine the native index (R201). -/
theorem addrOf_injective : Function.Injective addrOf := by
  intro n n' h
  obtain ⟨hidx, hmask⟩ := PixelAddr.mk.inj h
  have hpos := congrArg maskPos hmask
  rw [maskPos_maskOf, maskPos_maskOf, Option.some_inj] at hpos
  omega

/-- The shifts of R189 are the division and remainder of R183. -/
theorem addrOf_eq_shifts (n : Nat) : (⟨n >>> 3, 0x80#8 >>> (n &&& 7)⟩ : PixelAddr) = addrOf n := by
  rw [addrOf, maskOf, Nat.shiftRight_eq_div_pow, Nat.and_two_pow_sub_one_eq_mod n 3]

/-! ### `DIRECT` and `SHIFT` (R187, R189) -/

theorem translateDirect_outOfBounds {c : Config} {x y : Nat} (h : ¬ inBounds c x y = true) :
    translateDirect c x y = none := if_neg h

theorem translateDirect_inBounds {c : Config} {x y : Nat} (h : inBounds c x y = true) :
    translateDirect c x y = some (addrOf (nidx c x y)) := if_pos h

/-- The sum of the shifts for the lowest `n` bits of `w` multiplies by them. -/
theorem sum_shifts_eq_mul_mod (w v n : Nat) :
    ((List.range n).map fun k => if w.testBit k then v <<< k else 0).sum = v * (w % 2 ^ n) := by
  induction n with
  | zero => simp [Nat.mod_one]
  | succ n ih =>
    rw [List.range_succ, List.map_append, List.sum_append, ih, Nat.mod_pow_succ, ← Nat.toNat_testBit,
      Nat.mul_add]
    cases hbit : w.testBit n <;> simp [hbit, Nat.shiftLeft_eq]

theorem mulW_eq_mul {w : Nat} (hw : w < 2 ^ 13) (v : Nat) : mulW w v = v * w := by
  rw [mulW, sum_shifts_eq_mul_mod, Nat.mod_eq_of_lt hw]

theorem translateShift_eq_direct {c : Config} (hwf : c.wf = true) (hm : c.pixelMap = .std) (x y : Nat) :
    translateShift c x y = translateDirect c x y := by
  have hw : c.width < 2 ^ 13 := by have := Config.wf_sizes hwf; omega
  simp only [translateShift, translateDirect, mulW_eq_mul hw, addrOf_eq_shifts, nidx_std hm]

/-! ### The lookup tables (R195, R196, R197) -/

section
variable {c : Config} {x y k : Nat}

theorem lutRow_eq (c : Config) (k : Nat) : lutRow c k = if c.orient = .portrait then k else c.height - 1 - k := by
  unfold lutRow
  cases c.orient <;> rfl

theorem lutKey_lt_height (hx : x < logicalWidth c) (hy : y < logicalHeight c) : lutKey c x y < c.height := by
  unfold lutKey
  obtain ⟨ho, hw, hh⟩ | ⟨ho, hw, hh⟩ := logicalSize_cases c <;> rw [ho] <;> dsimp only <;> omega

/-- The key of a coordinate selects its physical row. -/
theorem lutRow_lutKey (c : Config) (x y : Nat) : lutRow c (lutKey c x y) = physRow c x y := by
  unfold lutRow lutKey physRow
  cases c.orient <;> rfl

@[simp] theorem builtIndexTable_length (c : Config) : (builtIndexTable c).length = c.height := by
  simp [builtIndexTable]

@[simp] theorem builtMaskTable_length (c : Config) : (builtMaskTable c).length = c.height := by
  simp [builtMaskTable]

theorem builtIndexTable_getElem? (hk : k < c.height) : (builtIndexTable c)[k]? = some (builtIndex c k) := by
  simp [builtIndexTable, hk]

theorem builtMaskTable_getElem? (hk : k < c.height) : (builtMaskTable c)[k]? = some (builtMask c k) := by
  simp [builtMaskTable, hk]

/-- No entry of `IndexTable` is cut off: `4096 * 4096 / 8` is `2 ^ 21` (R203). -/
theorem builtIndex_toNat (hwf : c.wf = true) (hm : c.pixelMap = .std) (hk : k < c.height) :
    (builtIndex c k).toNat = lutRow c k * c.width / 8 := by
  obtain ⟨hw1, hw, -, hh⟩ := Config.wf_sizes hwf
  have hrow : lutRow c k < 4096 := by rw [lutRow_eq]; split <;> omega
  have hlt : lutRow c k * c.width < 4096 * 4096 := Nat.mul_lt_mul_of_lt_of_le hrow hw (by omega)
  have hidx : (lutRow c k * c.width) >>> 3 = lutRow c k * c.width / 8 := Nat.shiftRight_eq_div_pow _ 3
  simp only [builtIndex, hm, hidx, BitVec.toNat_ofNat]
  omega

theorem builtMask_eq_maskOf (hm : c.pixelMap = .std) (k : Nat) : builtMask c k = maskOf (lutRow c k * c.width) := by
  simp only [builtMask, hm]
  exact congrArg PixelAddr.mask (addrOf_eq_shifts (lutRow c k * c.width))

/-- The lookup adds the column to the first pixel `p` of the row, given by its byte and its bit in it. -/
theorem lutAddr_eq_addrOf {index : LutIndex} {p : Nat} (h : index.toNat = p / 8) (col : Nat) :
    lutAddr index (p % 8) col = addrOf (p + col) := by
  obtain ⟨hidx, hmask⟩ := PixelAddr.mk.inj (addrOf_eq_shifts (p % 8 + col))
  have hmod : (p % 8 + col) % 8 = (p + col) % 8 := Nat.mod_add_mod p 8 col
  rw [lutAddr, hidx, hmask, addrOf, maskOf, maskOf, hmod, h, PixelAddr.mk.injEq]
  exact ⟨by omega, rfl⟩

end

theorem translateLut_eq_direct {s : State} (hwf : s.cfg.wf = true) (hm : s.cfg.pixelMap = .std)
    (hv : s.lutValid = true) (hi : s.lutIndex = builtIndexTable s.cfg) (hmk : s.lutMask = builtMaskTable s.cfg)
    (x y : Nat) : translateLut s x y = .ok (translateDirect s.cfg x y) := by
  by_cases hb : inBounds s.cfg x y = true
  · obtain ⟨hx, hy⟩ := inBounds_iff.mp hb
    have hk := lutKey_lt_height hx hy
    have hindex := builtIndex_toNat hwf hm hk
    have hmask := builtMask_eq_maskOf hm (lutKey s.cfg x y)
    rw [lutRow_lutKey] at hindex hmask
    simp only [translateLut, hb, hv, hi, hmk, builtIndexTable_getElem? hk, builtMaskTable_getElem? hk, hmask,
      Option.bind_some, maskPos_maskOf, if_true, lutAddr_eq_addrOf hindex, translateDirect_inBounds hb, nidx_std hm]
  · simp only [translateLut, translateDirect_outOfBounds hb, if_neg hb]

/-! ### The translator (R180, R186) -/

/-- Every strategy gives `DIRECT`'s result on built tables (R200). -/
theorem State.translate_eq_direct {s : State} (hwf : s.cfg.wf = true) (ht : TablesReady s) (x y : Nat) :
    s.translate x y = .ok (translateDirect s.cfg x y) := by
  unfold State.translate
  split
  case h_1 => rfl
  case h_2 => rfl
  case h_3 hm _ => rw [translateShift_eq_direct hwf hm]
  case h_4 hm hs =>
    obtain ⟨hv, hi, hmk⟩ := ht hs
    exact translateLut_eq_direct hwf hm hv hi hmk x y

/-- Out of bounds no strategy reads a table (R181). -/
theorem State.translate_outOfBounds {s : State} {x y : Nat} (h : ¬ inBounds s.cfg x y = true) :
    s.translate x y = .ok none := by
  unfold State.translate
  split
  case h_1 => rw [translateDirect_outOfBounds h]
  case h_2 => rw [translateDirect_outOfBounds h]
  case h_3 => rw [translateShift, if_neg h]
  case h_4 => rw [translateLut, if_neg h]

theorem exec_setPixel_outOfBounds {s : State} {x y : Coord} (hr : s.ctrl = .ready)
    (h : ¬ inBounds s.cfg x.toNat y.toNat = true) (c : Bool) :
    exec (.setPixel x y c) s = .next (s.finish (oorCode s.cfg)) := by
  simp only [exec, execSetPixel, if_pos hr, State.translate_outOfBounds h]

theorem exec_xlate_outOfBounds {s : State} {x y : Coord} (hr : s.ctrl = .ready)
    (h : ¬ inBounds s.cfg x.toNat y.toNat = true) :
    exec (.xlate x y) s = .next ({ s with result := 0 }.finish (oorCode s.cfg)) := by
  simp only [exec, execXlate, if_pos hr, State.translate_outOfBounds h]

theorem exec_lutBuild {s : State} (h : s.cfg.strategy = .lut) : exec .lutBuild s = .next s.buildLut := by
  simp only [exec, execLutBuild, if_pos h]

/-! ### The obligations of 42_address_transform.md -/

/-- Settles O16: every strategy checks the bounds before anything else (`State.translate_outOfBounds`). -/
theorem outOfBoundsIsRejected : Obligations.OutOfBoundsIsRejected := by
  intro s x y c hr hout code
  have hb : ¬ inBounds s.cfg x.toNat y.toNat = true := mt inBounds_iff.mp hout
  have hcode : oorCode s.cfg = code := oorCode_eq s.cfg
  refine ⟨fun t => State.translate_outOfBounds hb, ?setPixel, ?xlate⟩
  case setPixel => rw [exec_setPixel_outOfBounds hr hb, hcode]; rfl
  case xlate => rw [exec_xlate_outOfBounds hr hb, hcode]; rfl

/-- Settles O29: the entries are `builtIndex_toNat` and `builtMask_eq_maskOf`. -/
theorem lutBuildFillsTables : Obligations.LutBuildFillsTables := by
  refine ⟨rfl, fun s hwf hs => ⟨builtIndexTable s.cfg, builtMaskTable s.cfg, exec_lutBuild hs,
    builtIndexTable_length s.cfg, builtMaskTable_length s.cfg, fun hm k hk => ?entries⟩⟩
  case entries =>
    rw [← lutRow_eq]
    exact ⟨by rw [builtIndexTable_getElem? hk, Option.map_some, builtIndex_toNat hwf hm hk],
      by rw [builtMaskTable_getElem? hk, Option.map_some, builtMask_eq_maskOf hm, maskOf_toNat]⟩

/-- Settles O33: the tables do not depend on the strategy, so `State.translate_eq_direct` applies under each. -/
theorem strategiesAgree : Obligations.StrategiesAgree := by
  intro s x y hwf hv hi hmk _ _
  exact ⟨fun t => State.translate_eq_direct (s := { s with cfg := { s.cfg with strategy := t } }) hwf
      (fun _ => ⟨hv, hi, hmk⟩) x y,
    fun hm => ⟨translateShift_eq_direct hwf hm x y, translateLut_eq_direct hwf hm hv hi hmk x y⟩⟩

/-- Settles O34: by `nidx_eq_iff`, row and column are the native index's quotient and remainder by `W`. -/
theorem pixelMapIsBijective : Obligations.PixelMapIsBijective := by
  intro c hwf hm
  refine ⟨fun x y => nidx_lt_npix hwf, fun n hn => ?inverse, fun n n' h => addrOf_injective h⟩
  case inverse =>
    have hw : 0 < c.width := (Config.wf_sizes hwf).1
    have hcol : n % c.width < c.width := Nat.mod_lt _ hw
    have hrow : n / c.width < c.height := Nat.div_lt_of_lt_mul hn
    have hnidx := fun x y hx hy => nidx_eq_iff (x := x) (y := y) hm hx hy n
    generalize n / c.width = row, n % c.width = col at hrow hcol hnidx ⊢
    obtain ⟨ho, hlw, hlh⟩ | ⟨ho, hlw, hlh⟩ := logicalSize_cases c
    · simp only [physRow_portrait ho, physCol_portrait ho] at hnidx
      simp only [ho, if_true]
      refine ⟨by omega, by omega, (hnidx _ _ (by omega) (by omega)).mpr ⟨rfl, rfl⟩, fun x' y' hx' hy' h => ?_⟩
      have hrowcol := (hnidx x' y' hx' hy').mp h
      omega
    · simp only [physRow_landscape ho, physCol_landscape ho] at hnidx
      simp only [ho, reduceCtorEq, if_false]
      refine ⟨by omega, by omega, (hnidx _ _ (by omega) (by omega)).mpr ⟨by omega, rfl⟩, fun x' y' hx' hy' h => ?_⟩
      have hrowcol := (hnidx x' y' hx' hy').mp h
      omega

/-- Settles O36: the corners are coordinates in bounds; the table is `nidx_std` at them. -/
theorem cornersMapAsTabled : Obligations.CornersMapAsTabled := by
  intro c hwf w h
  obtain ⟨hw, -, hh, -⟩ := Config.wf_sizes hwf
  have hlast := lastPixel_eq hw hh
  have hsize : 1 ≤ w ∧ 1 ≤ h := logicalSize_pos hwf
  refine ⟨fun x y hx hy => ?corners, fun x y => ?outside, fun hm ho => ?portrait, fun hm ho => ?landscape⟩
  case corners =>
    have hx : x < logicalWidth c := by omega
    have hy : y < logicalHeight c := by omega
    have hb := inBounds_iff.mpr ⟨hx, hy⟩
    exact ⟨hb, _, translateDirect_inBounds hb, div_eight_lt_fbLen (nidx_lt_npix hwf hx hy)⟩
  case outside =>
    exact ⟨translateDirect_outOfBounds fun hb => lt_irrefl _ (inBounds_iff.mp hb).1,
      translateDirect_outOfBounds fun hb => lt_irrefl _ (inBounds_iff.mp hb).2⟩
  case portrait =>
    have hlw : w = c.width := by simp only [w, logicalWidth, ho]
    have hlh : h = c.height := by simp only [h, logicalHeight, ho]
    simp only [nidx_std hm, physRow_portrait ho, physCol_portrait ho, hlw, hlh]
    exact ⟨by omega, by omega, by omega, hlast⟩
  case landscape =>
    have hlw : w = c.height := by simp only [w, logicalWidth, ho]
    have hlh : h = c.width := by simp only [h, logicalHeight, ho]
    simp only [nidx_std hm, physRow_landscape ho, physCol_landscape ho, hlw, hlh, Nat.sub_self, Nat.sub_zero]
    exact ⟨by omega, by omega, hlast, by omega⟩

/-- Settles O32: by the orientation's cases, and `maskOf_toNat`. -/
theorem stdMapFormula : Obligations.StdMapFormula := by
  intro c x y hm
  refine ⟨fun ho => ?portrait, fun ho => ?landscape, fun n => ⟨rfl, maskOf_toNat n⟩⟩
  case portrait =>
    rw [nidx_std hm, physRow_portrait ho, physCol_portrait ho, logicalWidth, logicalHeight, ho]
    exact ⟨rfl, rfl, rfl, rfl, rfl⟩
  case landscape =>
    rw [nidx_std hm, physRow_landscape ho, physCol_landscape ho, logicalWidth, logicalHeight, ho]
    exact ⟨rfl, rfl, rfl, rfl, rfl⟩

end Sys2Proof.Machine

namespace Sys2Proof.Machine

/-! ### Host command words by `OP` (R95, R96) -/

section
variable {w : CmdWord}

theorem decode_host_nop (h : w.toNat / 2 ^ 28 = 0) : decode (.host w) = .ok .nop := by
  rw [hostWordsDecodeByOpAlone w, h]
  rfl

theorem decode_host_init (h : w.toNat / 2 ^ 28 = 1) : decode (.host w) = .ok .init := by
  rw [hostWordsDecodeByOpAlone w, h]
  rfl

theorem decode_host_setPixel (h : w.toNat / 2 ^ 28 = 3) : decode (.host w) = .ok
    (.setPixel (BitVec.ofNat 12 (w.toNat % 2 ^ 12)) (BitVec.ofNat 12 (w.toNat / 2 ^ 12 % 2 ^ 12))
      (decide (w.toNat / 2 ^ 24 % 2 = 1))) := by
  rw [hostWordsDecodeByOpAlone w, h]
  rfl

theorem decode_host_display (h : w.toNat / 2 ^ 28 = 4) : decode (.host w) = .ok .display := by
  rw [hostWordsDecodeByOpAlone w, h]
  rfl

theorem decode_host_xlate (h : w.toNat / 2 ^ 28 = 5) : decode (.host w) = .ok
    (.xlate (BitVec.ofNat 12 (w.toNat % 2 ^ 12)) (BitVec.ofNat 12 (w.toNat / 2 ^ 12 % 2 ^ 12))) := by
  rw [hostWordsDecodeByOpAlone w, h]
  rfl

theorem opField_eq_zero_iff : opField w = 0#4 ↔ w.toNat / 2 ^ 28 = 0 := by
  rw [← BitVec.toNat_inj, opField_toNat]
  rfl

end

/-- The illegal operations (R96). -/
def illegalOps : List Instr :=
  [.illegal6, .illegal7, .illegal8, .illegal9, .illegalA, .illegalB, .illegalC, .illegalD, .illegalE, .illegalF]

theorem decodeHost_mem_illegalOps {w : CmdWord} (h : 6 ≤ w.toNat / 2 ^ 28) : decodeHost w ∈ illegalOps := by
  rw [← opField_toNat] at h
  unfold decodeHost
  split
  case h_1 | h_2 | h_3 | h_4 | h_5 | h_6 => omega
  all_goals decide

theorem exec_illegal {i : Instr} (h : i ∈ illegalOps) (s : State) : exec i s = .next (s.finish .illegalOp) := by
  simp only [illegalOps, List.mem_cons, List.not_mem_nil, or_false] at h
  rcases h with rfl | rfl | rfl | rfl | rfl | rfl | rfl | rfl | rfl | rfl <;> rfl

/-! ### Preconditions (R223) -/

/-- The state of `CTRL` that a command's precondition asks for; the other instructions have none (R223). -/
inductive Requires : Instr → Ctrl → Prop
  | init : Requires .init .uninit
  | clear (c : Bool) : Requires (.clear c) .ready
  | setPixel (x y : Coord) (c : Bool) : Requires (.setPixel x y c) .ready
  | display : Requires .display .ready
  | xlate (x y : Coord) : Requires (.xlate x y) .ready

theorem Requires.of_decode {w : CmdWord} {i : Instr} {c : Ctrl} (hd : decode (.host w) = .ok i) (h : Requires i c) :
    Requires (decodeHost w) c := by
  cases hd
  exact h

/-- The preconditions by `OP` (R223). -/
theorem requires_decodeHost_iff {w : CmdWord} {c : Ctrl} : Requires (decodeHost w) c ↔
    (w.toNat / 2 ^ 28 = 1 ∧ c = .uninit) ∨ (2 ≤ w.toNat / 2 ^ 28 ∧ w.toNat / 2 ^ 28 ≤ 5 ∧ c = .ready) := by
  constructor
  · have hop := opField_eq_row w
    intro h
    rw [← opField_toNat w, hop]
    generalize decodeHost w = i at h
    cases h <;> simp only [Laws.RowWord.row] <;> decide
  · rintro (⟨hop, rfl⟩ | ⟨hlo, hhi, rfl⟩)
    · exact .of_decode (decode_host_init hop) .init
    · have hops : w.toNat / 2 ^ 28 = 2 ∨ w.toNat / 2 ^ 28 = 3 ∨ w.toNat / 2 ^ 28 = 4 ∨ w.toNat / 2 ^ 28 = 5 := by
        omega
      obtain hop | hop | hop | hop := hops
      · exact .of_decode (decode_host_clear hop) (.clear _)
      · exact .of_decode (decode_host_setPixel hop) (.setPixel _ _ _)
      · exact .of_decode (decode_host_display hop) .display
      · exact .of_decode (decode_host_xlate hop) (.xlate _ _)

/-- A command whose precondition fails ends with `INVALID_STATE` (R223). -/
theorem Requires.exec_wrong_ctrl {i : Instr} {s : State} {c : Ctrl} (hi : Requires i c) (hc : s.ctrl ≠ c) :
    exec i s = .next (s.finish .invalidState) := by
  cases hi <;> exact if_neg hc

theorem oorCode_ne_invalidState (c : Config) : oorCode c ≠ .invalidState := by
  unfold oorCode
  split <;> decide

/-- A host command whose precondition holds, or that has none, does not write `INVALID_STATE` (R223). -/
theorem exec_right_ctrl_lastErr {i : Instr} {s t : State} (hi : i.wellFormedFor .host = true)
    (hc : ∀ c, Requires i c → s.ctrl = c) (h : exec i s = .next t) :
    t.lastErr = s.lastErr ∨ t.lastErr ≠ .invalidState := by
  cases i <;> simp only [exec, Instr.wellFormedFor, Bool.false_eq_true] at hi h
  case nop =>
    rw [execNop] at h
    cases h
    exact .inl (by split <;> rfl)
  case init =>
    rw [execInit, if_pos (hc _ .init)] at h
    cases h
    exact .inl (by simp [State.driveInactive_eq])
  case clear c =>
    rw [execClear, if_pos (hc _ (.clear c))] at h
    cases h
    exact .inr (by simp)
  case display =>
    rw [execDisplay, if_pos (hc _ .display)] at h
    cases h
    exact .inl rfl
  case setPixel x y c =>
    rw [execSetPixel, if_pos (hc _ (.setPixel x y c))] at h
    split at h
    · cases h
    · cases h; exact .inr (oorCode_ne_invalidState _)
    · split at h <;> cases h
      exact .inr (by simp)
  case xlate x y =>
    rw [execXlate, if_pos (hc _ (.xlate x y))] at h
    split at h <;> cases h
    · exact .inr (oorCode_ne_invalidState _)
    · exact .inr (by simp)
  all_goals cases h; exact .inr (by simp)

/-! ### Steps of the host and of the sequencer -/

theorem step_host_command {s : State} {w : CmdWord} (hw : s.cfg.wf = true) (h : s.hostWrites 0x0#22 w) :
    step s = .next ((s.writeCmd w).withAgents s.turns.tail { s.host with pc := s.host.pc + 1 }) := by
  obtain ⟨ht, hop⟩ := h
  have hop' : s.turnTaken.hostOp = some (.write 0x0#22 4 w) := hop
  rw [step_eq_outcome hw, State.issue_host ht, State.hostIssue, hop', ← State.writeCmd_withAgents]
  exact State.hostWrite_cmd _ w

theorem step_sequencer_run {s : State} {c : Code} {i : Instr} (hw : s.cfg.wf = true) (ht : s.turn = .sequencer)
    (hf : s.fetch = .ok (some c)) (hd : decode c = .ok i) :
    step s = afterRun s.inBuild (exec i { s.turnTaken with uop := none }) := by
  have hfetch : s.turnTaken.fetch = .ok (some c) := hf
  rw [step_eq_outcome hw, State.issue_sequencer ht, State.sequencerIssue, hfetch]
  simp only [hd]
  rfl

theorem step_sequencer_no_word {s : State} (hw : s.cfg.wf = true) (ht : s.turn = .sequencer)
    (hf : s.fetch = .ok none) : step s = .next s.turnTaken.buildDone := by
  have hfetch : s.turnTaken.fetch = .ok none := hf
  rw [step_eq_outcome hw, State.issue_sequencer ht, State.sequencerIssue, hfetch]
  rfl

theorem State.fetch_initBuild {s : State} (hu : s.uop = none) (hp : s.phase = .initBuild) :
    s.fetch = .ok (if s.cfg.strategy = .lut then some (.micro 0xB000#16) else none) := by
  simp only [State.fetch, hu, hp]

/-! ### `NOP`, `INIT` and `DISPLAY` (R222, R224, R236) -/

theorem exec_nop_idle {s : State} (h : s.busy = false) : exec .nop s = .next s := by
  simp only [exec, execNop, h, Bool.false_eq_true, if_false]

theorem exec_nop_busy {s : State} (h : s.busy = true) : exec .nop s = .next s.collision := by
  simp only [exec, execNop, h, if_true]

theorem exec_init_uninit {s : State} (h : s.ctrl = .uninit) :
    exec .init s = .next ({ s with ctrl := .initializing }.driveInactive.goto .initReset 0) := if_pos h

theorem exec_display_ready {s : State} (h : s.ctrl = .ready) :
    exec .display s = .next ({ s with ctrl := .rendering }.goto .dispStart 0) := if_pos h

/-! ### One bit of a byte (R163, R183) -/

theorem maskOf_getLsbD (n : Nat) {k : Nat} (hk : k < 8) : (maskOf n).getLsbD k = decide (k = 7 - n % 8) := by
  have hbit : ∀ a < 8, ∀ k < 8, (0x80#8 >>> a).getLsbD k = decide (k = 7 - a) := by decide
  exact hbit _ (Nat.mod_lt _ (by decide)) k hk

theorem oneHot_maskOf (n : Nat) : oneHot (maskOf n) = true := by
  have hmask : ∀ a < 8, oneHot (0x80#8 >>> a) = true := by decide
  exact hmask _ (Nat.mod_lt _ (by decide))

theorem pixelOf_maskOf_self (n : Nat) : pixelOf (maskOf n) (maskOf n) = true := by
  have hmask : ∀ a < 8, pixelOf (0x80#8 >>> a) (0x80#8 >>> a) = true := by decide
  exact hmask _ (Nat.mod_lt _ (by decide))

theorem pixelOf_zero (mask : Byte) : pixelOf 0x00#8 mask = false := by
  simp [pixelOf]

theorem setMasked_maskOf_getLsbD (old : Byte) (n : Nat) (c : Bool) {k : Nat} (hk : k < 8) :
    (setMasked old (maskOf n) c).getLsbD k = if k = 7 - n % 8 then c else old.getLsbD k := by
  have hmask := maskOf_getLsbD n hk
  cases c
  · rw [setMasked, if_neg Bool.false_ne_true, BitVec.getLsbD_and, BitVec.getLsbD_not, hmask]
    split <;> simp [*]
  · rw [setMasked, if_pos rfl, BitVec.getLsbD_or, hmask]
    split <;> simp [*]

/-- The state with the pixel at native index `n` of colour `c`: what `FB_SETBIT` writes there (R163). -/
def State.writePixel (s : State) (n : Nat) (c : Bool) : State :=
  s.writeFb (n / 8) (setMasked (s.fbByte (n / 8)) (maskOf n) c)

theorem State.writePixel_read (s : State) (n a : Nat) (c : Bool) : (s.writePixel n c).fb.read a =
    if a = n / 8 then some (setMasked (s.fbByte (n / 8)) (maskOf n) c) else s.fb.read a :=
  Memory.read_write ..

theorem State.fbByte_writePixel (s : State) (n j : Nat) (c : Bool) : (s.writePixel n c).fbByte j =
    if j = n / 8 then setMasked (s.fbByte (n / 8)) (maskOf n) c else s.fbByte j :=
  State.fbByte_writeFb ..

theorem State.setBit_addrOf {s : State} {n : Nat} (hn : n < npix s.cfg) (c : Bool) :
    s.setBit (addrOf n) c = .ok (s.writePixel n c) :=
  if_pos ⟨div_eight_lt_fbLen hn, oneHot_maskOf n⟩

/-! ### `SET_PIXEL` and `XLATE` of a coordinate in bounds (R231, R241) -/

section
variable {s : State} {x y : Coord} (hr : s.ctrl = .ready) (hb : inBounds s.cfg x.toNat y.toNat = true)
  (hwf : s.cfg.wf = true) (ht : TablesReady s)
include hr hb hwf ht

theorem exec_setPixel_inBounds (c : Bool) : exec (.setPixel x y c) s =
    .next ((s.writePixel (nidx s.cfg x.toNat y.toNat) c).finish .none) := by
  obtain ⟨hx, hy⟩ := inBounds_iff.mp hb
  simp only [exec, execSetPixel, if_pos hr, State.translate_eq_direct hwf ht, translateDirect_inBounds hb,
    State.setBit_addrOf (nidx_lt_npix hwf hx hy)]

theorem exec_xlate_inBounds : exec (.xlate x y) s =
    .next ({ s with result := resultWord (nidx s.cfg x.toNat y.toNat / 8) (maskOf (nidx s.cfg x.toNat y.toNat)) }.finish
      .none) := by
  simp only [exec, execXlate, if_pos hr, State.translate_eq_direct hwf ht, translateDirect_inBounds hb, addrOf]

end

/-! ### The framebuffer between the commands of R232 -/

@[simp] theorem State.fbByte_finish (s : State) (c : ErrCode) (j : Nat) : (s.finish c).fbByte j = s.fbByte j := rfl

/-- The state a `CLEAR WHITE` executed in `READY` leaves (R229). -/
def State.cleared (s : State) : State := (s.fillFb false).finish .none

@[simp] theorem State.cleared_cfg (s : State) : s.cleared.cfg = s.cfg := rfl

theorem exec_clear_white {s : State} (hr : s.ctrl = .ready) : exec (.clear false) s = .next s.cleared :=
  exec_clear_ready hr false

theorem State.fbByte_cleared {s : State} {j : Nat} (hj : j < fbLen s.cfg) : s.cleared.fbByte j = 0x00#8 := by
  rw [State.cleared, State.fbByte_finish, State.fbByte_fillFb, if_pos hj]
  rfl

theorem State.fbByte_black_on_white {s : State} {n j : Nat} (hn : n / 8 < fbLen s.cfg) (hj : j < fbLen s.cfg) :
    (s.cleared.writePixel n true).fbByte j = if j = n / 8 then maskOf n else 0x00#8 := by
  rw [State.fbByte_writePixel, State.fbByte_cleared hn, State.fbByte_cleared hj, setMasked, if_pos rfl,
    BitVec.zero_or]

/-! ### Register words as numbers (R25, R30, R31) -/

/-- Fields that do not overlap add up: `a` has no bit below bit `k`, and `b` none from `k` on. -/
theorem or_toNat_eq_add {a b : CmdWord} {m n : Nat} (k : Nat) (ha : a.toNat = m) (hb : b.toNat = n)
    (hm : m % 2 ^ k = 0) (hn : n < 2 ^ k) : (a ||| b).toNat = m + n := by
  have hshift : m = (m / 2 ^ k) <<< k := by rw [Nat.shiftLeft_eq, Nat.div_mul_cancel (Nat.dvd_of_mod_eq_zero hm)]
  rw [BitVec.toNat_or, ha, hb, hshift, Nat.shiftLeft_add_eq_or_of_lt hn]

/-- A field shifted to its place. -/
theorem shiftLeft_toNat_of_lt {v : CmdWord} {k : Nat} (h : v.toNat * 2 ^ k < 2 ^ 32) :
    (v <<< k).toNat = v.toNat * 2 ^ k := by
  rw [BitVec.toNat_shiftLeft, Nat.shiftLeft_eq, Nat.mod_eq_of_lt h]

theorem shifted_field_toNat {w k : Nat} (v : BitVec w) (h : w + k ≤ 32) :
    (v.setWidth 32 <<< k : CmdWord).toNat = v.toNat * 2 ^ k := by
  have hv : (v.setWidth 32).toNat = v.toNat := BitVec.toNat_setWidth_of_le (by omega)
  rw [shiftLeft_toNat_of_lt] <;> rw [hv]
  calc v.toNat * 2 ^ k < 2 ^ w * 2 ^ k := Nat.mul_lt_mul_of_pos_right v.isLt (Nat.two_pow_pos k)
    _ = 2 ^ (w + k) := (Nat.pow_add ..).symm
    _ ≤ 2 ^ 32 := Nat.pow_le_pow_right (by decide) h

theorem bitAt_toNat (b : Bool) {k : Nat} (hk : k < 32) : (bitAt b k).toNat = b.toNat * 2 ^ k := by
  have hpow : 2 ^ k < 2 ^ 32 := Nat.pow_lt_pow_right (by decide) hk
  cases b
  · simp [bitAt]
  · exact shiftLeft_toNat_of_lt (by simpa using hpow)

/-- The framebuffer has at most `2 ^ 21` bytes (R5, R6). -/
theorem fbLen_le {c : Config} (hwf : c.wf = true) : fbLen c ≤ 2 ^ 21 := by
  obtain ⟨-, hw, -, hh⟩ := Config.wf_sizes hwf
  have harea : npix c ≤ 4096 * 4096 := Nat.mul_le_mul hw hh
  rw [fbLen, Nat.shiftRight_eq_div_pow]
  omega

theorem resultWord_toNat {i : Nat} (hi : i < 2 ^ 21) (m : Byte) :
    (resultWord i m).toNat = 2 ^ 31 + i * 2 ^ 8 + m.toNat := by
  have hidx : (BitVec.ofNat 32 i <<< 8).toNat = i * 2 ^ 8 := by
    rw [shiftLeft_toNat_of_lt] <;> rw [BitVec.toNat_ofNat] <;> omega
  have hmask : (m.setWidth 32).toNat = m.toNat := BitVec.toNat_setWidth_of_le (by decide)
  have hvalid : (bitAt true 31).toNat = 2 ^ 31 := rfl
  rw [resultWord, or_toNat_eq_add 8 (or_toNat_eq_add 29 hvalid hidx (by decide) (by omega)) hmask (by omega) m.isLt]

theorem State.statusWord_toNat (s : State) : s.statusWord.toNat =
    s.rstDone.toNat * 2 ^ 9 + s.torn.toNat * 2 ^ 8 + s.collide.toNat * 2 ^ 7 + s.lastErr.code.toNat * 2 ^ 4 +
      s.ctrl.code.toNat * 2 + s.busy.toNat := by
  have htorn := s.torn.toNat_lt
  have hcollide := s.collide.toNat_lt
  have hbusy := s.busy.toNat_lt
  have herr := s.lastErr.code.isLt
  have hctrl := s.ctrl.code.isLt
  have hbit0 : (bitAt s.busy 0).toNat = s.busy.toNat := by rw [bitAt_toNat _ (by decide), Nat.pow_zero, Nat.mul_one]
  rw [State.statusWord]
  refine or_toNat_eq_add 1 (or_toNat_eq_add 4 (or_toNat_eq_add 7 (or_toNat_eq_add 8 (or_toNat_eq_add 9
    (bitAt_toNat s.rstDone (by decide)) (bitAt_toNat s.torn (by decide)) ?_ ?_)
    (bitAt_toNat s.collide (by decide)) ?_ ?_) (shifted_field_toNat s.lastErr.code (by decide)) ?_ ?_)
    (shifted_field_toNat s.ctrl.code (by decide)) ?_ ?_) hbit0 ?_ ?_ <;> omega

theorem configWord_toNat {c : Config} (hwf : c.wf = true) : (configWord c).toNat =
    (oorBit c.oorPolicy).toNat * 2 ^ 27 + (strategyCode c.strategy).toNat * 2 ^ 25 +
      (orientBit c.orient).toNat * 2 ^ 24 + (c.height - 1) * 2 ^ 12 + (c.width - 1) := by
  obtain ⟨-, hw, -, hh⟩ := Config.wf_sizes hwf
  have hstrat := (strategyCode c.strategy).isLt
  have horient := (orientBit c.orient).toNat_lt
  have hwidth : (BitVec.ofNat 32 (c.width - 1)).toNat = c.width - 1 := by rw [BitVec.toNat_ofNat]; omega
  have hheight : (BitVec.ofNat 32 (c.height - 1) <<< 12).toNat = (c.height - 1) * 2 ^ 12 := by
    rw [shiftLeft_toNat_of_lt] <;> rw [BitVec.toNat_ofNat] <;> omega
  rw [configWord]
  refine or_toNat_eq_add 12 (or_toNat_eq_add 24 (or_toNat_eq_add 25 (or_toNat_eq_add 27
    (bitAt_toNat _ (by decide)) (shifted_field_toNat _ (by decide)) ?_ ?_)
    (bitAt_toNat _ (by decide)) ?_ ?_) hheight ?_ ?_) hwidth ?_ ?_ <;> omega

theorem lanesOfWord_eq (v : CmdWord) :
    lanesOfWord v = (List.range 4).map fun k => BitVec.ofNat 8 (v.toNat / 2 ^ (8 * k)) := by
  simp [lanesOfWord, BitVec.extractLsb', Nat.shiftRight_eq_div_pow, List.range_succ]

/-! ### The obligations of 43_controller_ops.md -/

/-- Settles O9: the host's step is `State.writeCmd`, by `BUSY` and by `OP`. -/
theorem cmdWriteStartsOrCollides : Obligations.CmdWriteStartsOrCollides := by
  intro s w hwf hw s'
  rw [step_host_command hwf hw]
  refine ⟨fun hb => ?collides, fun hb hop => ?nop, fun hb hop => ?starts⟩
  case collides => rw [State.writeCmd_of_busy w hb]; rfl
  case nop => rw [State.writeCmd_of_idle w hb, if_pos (opField_eq_zero_iff.mpr hop)]; rfl
  case starts => rw [State.writeCmd_of_idle w hb, if_neg (mt opField_eq_zero_iff.mp hop)]; rfl

/-- Settles O11: by `BUSY`. -/
theorem nopDoesNothingOrCollides : Obligations.NopDoesNothingOrCollides :=
  ⟨fun _ => decode_host_nop, fun _ => ⟨exec_nop_idle, exec_nop_busy⟩⟩

/-- Settles O12: `State.driveInactive_eq` is the three drives; elsewhere `exec_wrong_ctrl`. -/
theorem initDrivesLinesInactive : Obligations.InitDrivesLinesInactive := by
  refine ⟨fun _ => decode_host_init, fun s => ⟨fun hc => ?uninit, Requires.init.exec_wrong_ctrl⟩⟩
  case uninit => rw [exec_init_uninit hc, State.driveInactive_eq]; rfl

/-- Settles O13: the failing half is `exec_wrong_ctrl`, the other `exec_right_ctrl_lastErr`. -/
theorem failedPreconditionIsInvalidState : Obligations.FailedPreconditionIsInvalidState := by
  intro s w i hd op fails
  obtain rfl : decodeHost w = i := Except.ok.inj hd
  refine ⟨?fails, fun hok hne t ht => ?succeeds⟩
  case fails =>
    rintro (⟨hop, hc⟩ | ⟨hlo, hhi, hc⟩)
    · exact (requires_decodeHost_iff.mpr (.inl ⟨hop, rfl⟩)).exec_wrong_ctrl hc
    · exact (requires_decodeHost_iff.mpr (.inr ⟨hlo, hhi, rfl⟩)).exec_wrong_ctrl hc
  case succeeds =>
    have hctrl (c : Ctrl) (hreq : Requires (decodeHost w) c) : s.ctrl = c := by
      obtain ⟨hop, rfl⟩ | ⟨hlo, hhi, rfl⟩ := requires_decodeHost_iff.mp hreq
      · exact not_not.mp fun hc => hok (.inl ⟨hop, hc⟩)
      · exact not_not.mp fun hc => hok (.inr ⟨hlo, hhi, hc⟩)
    obtain h | h := exec_right_ctrl_lastErr (decodeHost_wellFormedFor w) hctrl ht
    · exact h ▸ hne
    · exact h

/-- Settles O15: outside `READY` and out of bounds nothing is written; in bounds it is `State.writePixel`, whose byte
`setMasked_maskOf_getLsbD` gives bit by bit. -/
theorem setPixelWritesOneBit : Obligations.SetPixelWritesOneBit := by
  refine ⟨fun _ => decode_host_setPixel, fun s x y c => ?_⟩
  intro ends inside n
  refine ⟨(Requires.setPixel x y c).exec_wrong_ctrl, fun hr hout => ?outside, fun hr hin hwf ht => ?inside⟩
  case outside =>
    have hexec := exec_setPixel_outOfBounds hr (mt inBounds_iff.mp hout) c
    rw [oorCode_eq] at hexec
    exact hexec
  case inside =>
    obtain ⟨hx, hy⟩ := hin
    have hread := s.writePixel_read n (c := c)
    exact ⟨(s.writePixel n c).fb, setMasked (s.fbByte (n / 8)) (maskOf n) c,
      exec_setPixel_inBounds hr (inBounds_iff.mpr ⟨hx, hy⟩) hwf ht c, div_eight_lt_fbLen (nidx_lt_npix hwf hx hy),
      (hread _).trans (if_pos rfl), fun _ hk => setMasked_maskOf_getLsbD _ n c hk,
      fun _ ha => (hread _).trans (if_neg ha)⟩

/-- Settles O17: in bounds the word is `resultWord`, whose fields `resultWord_toNat` adds up. -/
theorem xlateWritesResult : Obligations.XlateWritesResult := by
  refine ⟨fun _ => decode_host_xlate, fun s x y => ?_⟩
  intro ends inside n
  refine ⟨(Requires.xlate x y).exec_wrong_ctrl, fun hr hout => ?outside, fun hr hin hwf ht => ?inside⟩
  case outside =>
    have hexec := exec_xlate_outOfBounds hr (mt inBounds_iff.mp hout)
    rw [oorCode_eq] at hexec
    exact hexec
  case inside =>
    obtain ⟨hx, hy⟩ := hin
    have hidx : n / 8 < fbLen s.cfg := div_eight_lt_fbLen (nidx_lt_npix hwf hx hy)
    refine ⟨resultWord (n / 8) (maskOf n), exec_xlate_inBounds hr (inBounds_iff.mpr ⟨hx, hy⟩) hwf ht, ?_⟩
    rw [resultWord_toNat (hidx.trans_le (fbLen_le hwf)), maskOf_toNat]

/-- Settles O18: in `READY` by definition; elsewhere `exec_wrong_ctrl`. -/
theorem displayStartsRendering : Obligations.DisplayStartsRendering :=
  ⟨fun _ => decode_host_display, fun _ => ⟨exec_display_ready, Requires.display.exec_wrong_ctrl⟩⟩

/-- Settles O19: `exec_illegal` and `decodeHost_mem_illegalOps`. -/
theorem illegalOpsOnlyReport : Obligations.IllegalOpsOnlyReport :=
  ⟨fun _ s hi => exec_illegal hi s, fun w h => ⟨decodeHost w, decodeHost_mem_illegalOps h, rfl⟩⟩

/-- Settles O30: without tables the step fetches no word; with them it runs `LUT_BUILD` and goes on to `READY`. -/
theorem initBuildMakesReady : Obligations.InitBuildMakesReady := by
  intro s hwf hturn hu hp t
  have hfetch := State.fetch_initBuild hu hp
  refine ⟨fun hs => ?noTables, fun hs => ?tables⟩
  case noTables =>
    rw [if_neg hs] at hfetch
    exact step_sequencer_no_word hwf hturn hfetch
  case tables =>
    rw [if_pos hs] at hfetch
    have hbuild : s.inBuild = true := by simp [State.inBuild, hu, hp]
    rw [step_sequencer_run (i := .lutBuild) hwf hturn hfetch rfl, hbuild, State.turnTaken_uop_none hu,
      exec_lutBuild (s := s.turnTaken) hs]
    rfl

/-- Settles O37: `State.statusWord_toNat` and `configWord_toNat` give the words as sums, `lanesOfWord_eq` their
bytes. -/
theorem registerReadsGiveFields : Obligations.RegisterReadsGiveFields := by
  intro s hwf word oor strat ori err state
  have hlanes (v : CmdWord) : (lanesOfWord v, s) = word v.toNat := by rw [lanesOfWord_eq]
  have hoor : (oorBit s.cfg.oorPolicy).toNat = oor := by simp only [oor]; cases s.cfg.oorPolicy <;> rfl
  have hstrat : (strategyCode s.cfg.strategy).toNat = strat := by simp only [strat]; cases s.cfg.strategy <;> rfl
  have hori : (orientBit s.cfg.orient).toNat = ori := by simp only [ori]; cases s.cfg.orient <;> rfl
  have herr : s.lastErr.code.toNat = err := by simp only [err]; cases s.lastErr <;> rfl
  have hstate : s.ctrl.code.toNat = state := by simp only [state]; cases s.ctrl <;> rfl
  refine ⟨hlanes 0, ?status, hlanes s.result, ?config⟩
  case status => rw [← herr, ← hstate, ← s.statusWord_toNat]; exact hlanes s.statusWord
  case config => rw [← hoor, ← hstrat, ← hori, ← configWord_toNat hwf]; exact hlanes (configWord s.cfg)

/-- Settles O20: in bounds `State.fbByte_black_on_white` gives every byte after `SET_PIXEL`, and the second `CLEAR`
makes each of them 0; out of bounds `SET_PIXEL` writes no byte. -/
theorem pixelRoundTrip : Obligations.PixelRoundTrip := by
  intro s x y hwf hr ht
  by_cases hb : inBounds s.cfg x.toNat y.toNat = true
  case pos =>
    obtain ⟨hx, hy⟩ := inBounds_iff.mp hb
    have hn := div_eight_lt_fbLen (nidx_lt_npix hwf hx hy)
    have htranslate := State.translate_eq_direct hwf ht x.toNat y.toNat
    rw [translateDirect_inBounds hb] at htranslate
    have hset := exec_setPixel_inBounds (s := s.cleared) hr hb hwf ht true
    rw [State.cleared_cfg] at hset
    generalize nidx s.cfg x.toNat y.toNat = n at hn htranslate hset
    refine ⟨some (addrOf n), s.cleared, _, _, htranslate, exec_clear_white hr, hset, exec_clear_white hr, ?_⟩
    refine ⟨fun j k hj _ => ?bits, hn, ⟨7 - n % 8, by omega, maskOf_toNat n⟩, ?black, fun j hj =>
      State.fbByte_cleared hj, ?white⟩
    case bits =>
      rw [State.fbByte_finish, State.fbByte_black_on_white hn hj]
      by_cases h : j = n / 8 <;> simp [addrOf, h]
    case black =>
      rw [State.fbByte_finish, addrOf, State.fbByte_black_on_white hn hn, if_pos rfl, pixelOf_maskOf_self]
    case white => rw [addrOf, State.fbByte_cleared (s := (s.cleared.writePixel n true).finish .none) hn, pixelOf_zero]
  case neg =>
    exact ⟨none, s.cleared, _, _, State.translate_outOfBounds hb, exec_clear_white hr,
      exec_setPixel_outOfBounds (s := s.cleared) hr hb true, exec_clear_white hr, mt inBounds_iff.mpr hb, rfl, _,
      exec_setPixel_outOfBounds hr hb true, rfl⟩

end Sys2Proof.Machine

namespace Sys2Proof.Machine

/-! ### Where `CTRL` can go without block reset -/

theorem CtrlRow.failed_of_failed {s t : State} (h : CtrlRow s t) (hs : s.ctrl = .failed) : t.ctrl = .failed := by
  cases h with
  | kept hc => exact hc.trans hs
  -- Every other row leaves another state of the controller.
  | _ => simp_all

theorem CtrlRow.ne_uninit {s t : State} (h : CtrlRow s t) (hs : s.ctrl ≠ .uninit) : t.ctrl ≠ .uninit := by
  cases h with
  | kept hc => rwa [hc]
  -- No other row leads to `UNINIT`.
  | _ => simp_all

/-! ### The panel reset pulse -/

/-- The pulse has run and is not about to run again (R29, R131). -/
def State.PulseDone (s : State) : Prop := s.rstDone = true ∧ s.phase ≠ .initReset

@[simp] theorem State.pulseDone_finish {s : State} {c : ErrCode} : (s.finish c).PulseDone ↔ s.rstDone = true := by
  simp [State.PulseDone]

@[simp] theorem State.pulseDone_goto {s : State} {p : Phase} {i : SeqIdx} :
    (s.goto p i).PulseDone ↔ s.rstDone = true ∧ p ≠ .initReset := Iff.rfl

section
variable {s : State} (h : s.PulseDone)
include h

/-- Outside `UNINIT` no command starts the pulse again: `INIT` is rejected there (R224). -/
theorem State.PulseDone.of_command {t : State} (hc : s.ctrl ≠ .uninit) (hop : opField s.latch ≠ 0#4)
    (ht : exec (decodeHost s.latch) s.turnTaken = .next t) : t.PulseDone := by
  have hn : decodeHost s.latch ≠ .nop := fun hd => hop (decodeHost_eq_nop.mp hd)
  obtain ⟨-, huninit, -⟩ | ⟨-, -, rfl⟩ | ⟨f, r, c, rfl⟩ := exec_command_cases (decodeHost_wellFormedFor _) hn ht
  · exact absurd huninit hc
  · exact State.pulseDone_goto.mpr ⟨h.1, nofun⟩
  · exact State.pulseDone_finish.mpr h.1

theorem State.PulseDone.of_sent (dc : Level) (b : Byte) : (State.afterEntry (s.turnTaken.sendByte dc b)).PulseDone := by
  obtain ⟨n, a, d, tr, hr⟩ := s.turnTaken.sendByte_state dc b
  unfold State.afterEntry
  rw [hr]
  split
  case h_1 => exact h
  case h_2 => split <;> exact State.pulseDone_finish.mpr h.1

theorem State.PulseDone.streamByte : s.streamByte.PulseDone := by
  unfold State.streamByte
  split
  case h_1 => exact State.pulseDone_finish.mpr h.1
  case h_2 =>
    unfold State.nextByte
    split
    · exact h
    · exact State.pulseDone_goto.mpr ⟨h.1, nofun⟩

theorem State.PulseDone.closeBuffer : s.closeBuffer.PulseDone := by
  unfold State.closeBuffer
  split
  · exact State.pulseDone_finish.mpr h.1
  · exact State.pulseDone_goto.mpr ⟨h.1, nofun⟩

/-- Outside `UNINIT` no move of the sequencer undoes the pulse or enters `INIT_RESET` (R131, R302). -/
theorem SequencerMove.pulseDone {t : State} (hm : SequencerMove s t) (hc : s.ctrl ≠ .uninit) : t.PulseDone := by
  have hturn : s.turnTaken.PulseDone := h
  cases hm with
  | command _ hop ht => exact h.of_command hc hop ht
  | pulsed hp => exact absurd hp h.2
  | sent dc b => exact h.of_sent dc b
  | initSeqEnded => exact State.pulseDone_goto.mpr ⟨h.1, nofun⟩
  | frameStarted => exact State.pulseDone_goto.mpr ⟨h.1, nofun⟩
  | frameCommitted => exact State.pulseDone_finish.mpr h.1
  | built => exact State.pulseDone_finish.mpr h.1
  | notBuilt => exact State.pulseDone_finish.mpr h.1
  | opened => exact State.pulseDone_goto.mpr ⟨h.1, nofun⟩
  | streamed => exact hturn.streamByte
  | closed => exact hturn.closeBuffer

/-- The host latches a command at most, which puts the sequencer in `EXEC` (R220). -/
theorem State.PulseDone.writeCmd (w : CmdWord) : (s.writeCmd w).PulseDone := by
  cases hb : s.busy with
  | true => rw [State.writeCmd_of_busy w hb]; exact h
  | false =>
    rw [State.writeCmd_of_idle w hb]
    split
    · exact h
    · exact ⟨h.1, nofun⟩

theorem State.PulseDone.writeStatus (v : CmdWord) : (s.writeStatus v).PulseDone := by
  unfold State.writeStatus
  split <;> exact h

theorem HostMove.pulseDone {t : State} (hm : HostMove s t) : t.PulseDone := by
  cases hm with
  | quiet => exact h
  | command w => exact h.writeCmd w
  | status v => exact h.writeStatus v

end

/-- Without block reset the pulse runs at most once (R131, R302). -/
theorem BlockInv.step_pulseDone {s t : State} (hi : BlockInv s) (h : step s = .next t) (ht : s.turn ≠ .blockReset)
    (hd : s.rstDone = true) : t.PulseDone := by
  obtain ⟨hc, hp⟩ := hi.resetOnce.mp hd
  have hdone : s.PulseDone := ⟨hd, hp⟩
  cases hturn : s.turn with
  | host => exact (HostMove.of_step hturn h).pulseDone hdone
  | sequencer => exact (SequencerMove.of_step hi hturn h).pulseDone hdone hc
  | blockReset => exact absurd hturn ht

/-! ### The obligation -/

/-- Settles O48: `CTRL` by the rows of R23's table, the pulse by the moves of the sequencer and the host. -/
theorem onlyBlockResetLeavesFailed : Obligations.OnlyBlockResetLeavesFailed := by
  intro s t hi h ht
  have hrow : CtrlRow s t := .of_step hi h ht
  exact ⟨hrow.failed_of_failed, hrow.ne_uninit, hi.step_pulseDone h ht⟩

end Sys2Proof.Machine

namespace Sys2Proof.Machine

/-! ### The fields of an encoded host word (R93, R94) -/

section
variable (op : BitVec 4) (c : Bool) (y x : Coord)

theorem hostWord_toNat :
    (hostWord op c y x).toNat = op.toNat * 2 ^ 28 + c.toNat * 2 ^ 24 + y.toNat * 2 ^ 12 + x.toNat := by
  have hx : (x.setWidth 32).toNat = x.toNat := BitVec.toNat_setWidth_of_le (by decide)
  have hc := c.toNat_lt
  have hcolour : ((BitVec.ofBool c).setWidth 32 <<< 24).toNat = c.toNat * 2 ^ 24 := bitAt_toNat c (by decide)
  rw [hostWord]
  refine or_toNat_eq_add 12 (or_toNat_eq_add 24 (or_toNat_eq_add 28 (shifted_field_toNat op (by decide)) hcolour
    ?_ ?_) (shifted_field_toNat y (by decide)) ?_ ?_) hx ?_ ?_ <;> omega

theorem opField_hostWord : opField (hostWord op c y x) = op := by
  have hc := c.toNat_lt
  apply BitVec.eq_of_toNat_eq
  rw [opField_toNat, hostWord_toNat]
  omega

theorem colourField_hostWord : colourField (hostWord op c y x) = c := by
  have hbit : (hostWord op c y x).toNat / 2 ^ 24 % 2 = c.toNat := by
    have hc := c.toNat_lt
    rw [hostWord_toNat]
    omega
  rw [colourField_eq_decide, hbit]
  cases c <;> rfl

theorem yField_hostWord : yField (hostWord op c y x) = y := by
  apply BitVec.eq_of_toNat_eq
  rw [yField_eq_ofNat, BitVec.toNat_ofNat, hostWord_toNat]
  omega

theorem xField_hostWord : xField (hostWord op c y x) = x := by
  apply BitVec.eq_of_toNat_eq
  rw [xField_eq_ofNat, BitVec.toNat_ofNat, hostWord_toNat]
  omega

end

/-! ### The codes of table entries and micro-operations (R100, R104) -/

theorem entryWord_toNat (kind : BitVec 4) (b : Byte) : (entryWord kind b).toNat = kind.toNat * 2 ^ 12 + b.toNat := by
  have hkind : (kind.setWidth 16 <<< 12 : Entry).toNat = kind.toNat * 2 ^ 12 := by
    rw [BitVec.toNat_shiftLeft, BitVec.toNat_setWidth_of_le (by decide), Nat.shiftLeft_eq]
    omega
  rw [entryWord, kind_or_byte_toNat (by omega), hkind]

theorem decode_micro_cmd (b : Byte) : decode (.micro (entryWord 0x1#4 b)) = .ok (.cmd b) :=
  (microCodesDecodeToEight _ _).mpr (.inl ⟨b, entryWord_toNat _ b, rfl⟩)

theorem decode_micro_data (b : Byte) : decode (.micro (entryWord 0x2#4 b)) = .ok (.data b) :=
  (microCodesDecodeToEight _ _).mpr (.inr (.inl ⟨b, entryWord_toNat _ b, rfl⟩))

theorem decode_encode (i : Instr) : decode (encode i) = .ok i := by
  cases i
  case clear c =>
    simp only [encode, decode, decodeHost, opField_hostWord, colourField_hostWord]; rfl
  case setPixel x y c =>
    simp only [encode, decode, decodeHost, opField_hostWord, colourField_hostWord, xField_hostWord, yField_hostWord]
    rfl
  case xlate x y =>
    simp only [encode, decode, decodeHost, opField_hostWord, xField_hostWord, yField_hostWord]; rfl
  case cmd b => exact (tableEntriesDecodeToThree _ _).mpr (.inr (.inl ⟨b, entryWord_toNat _ b, rfl⟩))
  case data b => exact (tableEntriesDecodeToThree _ _).mpr (.inr (.inr ⟨b, entryWord_toNat _ b, rfl⟩))
  case setRstLevel a => cases a <;> rfl
  case fbFill c => cases c <;> rfl
  all_goals rfl

theorem decode_wellFormedFor {c : Code} {i : Instr} (h : decode c = .ok i) : i.wellFormedFor c.source = true := by
  cases c with
  | host w => cases h; exact decodeHost_wellFormedFor w
  | table e => obtain rfl | ⟨b, rfl⟩ | ⟨b, rfl⟩ := decodeEntry_cases h <;> rfl
  | micro e =>
    obtain ⟨b, -, rfl⟩ | ⟨b, -, rfl⟩ | ⟨-, rfl⟩ | ⟨a, -, rfl⟩ | ⟨-, rfl⟩ | ⟨-, rfl⟩ | ⟨c, -, rfl⟩ | ⟨-, rfl⟩ :=
      (microCodesDecodeToEight e i).mp h <;> rfl

/-- Only `CMD b` and `DATA b` stand in two sources: a table may hold them, and the sequencer has a code for each. -/
theorem Instr.source_of_wellFormedFor {i : Instr} {src : Source} (h : i.wellFormedFor src = true) :
    (encode i).source = src ∨ (src = .micro ∧ ((∃ b, i = .cmd b) ∨ ∃ b, i = .data b)) := by
  cases src <;> cases i <;> simp only [Instr.wellFormedFor, Bool.false_eq_true] at h
  case micro.cmd b => exact .inr ⟨rfl, .inl ⟨b, rfl⟩⟩
  case micro.data b => exact .inr ⟨rfl, .inr ⟨b, rfl⟩⟩
  all_goals exact .inl rfl

/-- Settles O1: `encode` gives each instruction a word of its own source, `CMD b` and `DATA b` have a code as well. -/
theorem decodeUndoesEncode : Obligations.DecodeUndoesEncode := by
  refine ⟨decode_encode, fun c i => decode_wellFormedFor, fun i src h => ?complete⟩
  case complete =>
    obtain h | ⟨rfl, ⟨b, rfl⟩ | ⟨b, rfl⟩⟩ := Instr.source_of_wellFormedFor h
    · exact ⟨encode i, h, decode_encode i⟩
    · exact ⟨_, rfl, decode_micro_cmd b⟩
    · exact ⟨_, rfl, decode_micro_data b⟩

end Sys2Proof.Machine

namespace Sys2Proof.Machine

/-! ### The words the sequencer fetches, and its steps (R41, R104, R221) -/

theorem afterRun_false (o : Host.Outcome State Fault Refusal) : afterRun false o = o := by
  cases o <;> rfl

section
variable {s : State} (hu : s.uop = none)
include hu

theorem State.fetch_idle (hp : s.phase = .idle) : s.fetch = .error .sequencerStuck := by
  simp only [State.fetch, hu, hp]

theorem State.fetch_exec (hp : s.phase = .exec) (hop : opField s.latch ≠ 0#4) :
    s.fetch = .ok (some (.host s.latch)) := by
  simp only [State.fetch, hu, hp, if_neg hop]

theorem State.fetch_initReset (hp : s.phase = .initReset) : s.fetch = .ok (some (.micro 0x8000#16)) := by
  simp only [State.fetch, hu, hp]

theorem State.fetch_entry (hp : s.phase.runsTable = true) {e : Entry} (he : s.phaseTable[s.idx.toNat]? = some e) :
    s.fetch = .ok (some (.table e)) := by
  have hcode : s.tableCode = .ok (some (.table e)) := by rw [State.tableCode, he]
  obtain hp | hp | hp := s.phase.runsTable_iff.mp hp <;> simp only [State.fetch, hu, hp, hcode]

theorem State.fetch_buffer (hp : s.phase = .dispBufOpen ∨ s.phase = .dispBuf ∨ s.phase = .dispBufClose) :
    s.fetch = .ok (some (.micro 0xA000#16)) := by
  obtain hp | hp | hp := hp <;> simp only [State.fetch, hu, hp]

end

theorem step_sequencer_stuck {s : State} (hw : s.cfg.wf = true) (ht : s.turn = .sequencer) (hu : s.uop = none)
    (hp : s.phase = .idle) : step s = .fault .sequencerStuck := by
  have hfetch : s.turnTaken.fetch = .error .sequencerStuck := State.fetch_idle (s := s.turnTaken) hu hp
  rw [step_eq_outcome hw, State.issue_sequencer ht, State.sequencerIssue, hfetch]
  rfl

/-! ### Steps of the host -/

theorem step_host_status {s : State} {v : CmdWord} (hw : s.cfg.wf = true) (h : s.hostWrites 0x4#22 v) :
    step s = .next ((s.writeStatus v).withAgents s.turns.tail { s.host with pc := s.host.pc + 1 }) := by
  obtain ⟨ht, hop⟩ := h
  have hop' : s.turnTaken.hostOp = some (.write 0x4#22 4 v) := hop
  refine step_of_done hw ?_
  rw [State.issue_host ht, State.hostIssue, hop', ← State.writeStatus_withAgents]
  exact State.hostWrite_status _ v

section
variable {s : State} (hw : s.cfg.wf = true) (ht : s.turn = .host)
include hw ht

theorem step_host_brBusy {target : Nat} (hop : s.hostOp = some (.brBusy target)) :
    step s = .next (s.withAgents s.turns.tail
      { s.host with pc := if s.host.lastBusy then target else s.host.pc + 1 }) := by
  have hop' : s.turnTaken.hostOp = some (.brBusy target) := hop
  refine step_of_done hw ?_
  rw [State.issue_host ht, State.hostIssue, hop', State.turnTaken_host]
  dsimp only
  split <;> rfl

theorem step_host_halt (hop : s.hostOp = some .halt) :
    step s = .next (s.withAgents s.turns.tail { s.host with halted := true }) := by
  have hop' : s.turnTaken.hostOp = some .halt := hop
  refine step_of_done hw ?_
  rw [State.issue_host ht, State.hostIssue, hop']
  rfl

theorem step_host_stuck (hop : s.hostOp = none) : step s = .fault .hostStuck := by
  have hop' : s.turnTaken.hostOp = none := hop
  refine step_of_stop hw ?_
  rw [State.issue_host ht, State.hostIssue, hop']

end

/-! ### Reads of the framebuffer window (R65, R69, R167) -/

theorem State.hostRead_window (s : State) {i n : Nat} (h : n = 1 ∨ (n = 4 ∧ i % 4 = 0)) :
    s.hostRead (windowBase + i) n = s.readWindow i n := by
  have hacc : n = 1 ∨ wordAccess (windowBase + i) n = true := by
    refine h.imp_right fun ⟨hn, hi⟩ => ?_
    have hal : (windowBase + i) % 4 = 0 := by rw [windowBase]; omega
    simp [wordAccess, hn, hal]
  rw [State.hostRead, if_neg (Nat.not_lt.mpr (Nat.le_add_right ..)), if_pos hacc, Nat.add_sub_cancel_left]

theorem State.readWindow_ready (s : State) (h : s.ctrl = .ready ∧ s.busy = false) (n : Nat) : ∀ i : Nat,
    s.readWindow i n = ((List.range n).map fun k => if i + k < fbLen s.cfg then s.fbByte (i + k) else 0, s) := by
  induction n with
  | zero => exact fun _ => rfl
  | succ n ih =>
    intro i
    have hb : s.readWindowByte i = (if i < fbLen s.cfg then s.fbByte i else 0, s) := by
      by_cases hi : i < fbLen s.cfg
      · simp [State.readWindowByte, h, hi]
      · simp [State.readWindowByte, hi, Nat.not_lt.mp hi]
    simp [State.readWindow, hb, ih, List.range_succ_eq_map, Function.comp_def, Nat.add_assoc, Nat.add_comm 1]

/-- Outside `READY` or while busy each byte below `N` is a free value of its own. -/
theorem State.readWindow_free (n : Nat) : ∀ (s : State) (i : Nat), ¬ (s.ctrl = .ready ∧ s.busy = false) →
    s.readWindow i n =
      ((List.range n).map fun k => if i + k < fbLen s.cfg then Config.windowByte (s.draws + k) else 0,
        { s with draws := s.draws + min n (fbLen s.cfg - i) }) := by
  induction n with
  | zero => exact fun s _ _ => by simp [State.readWindow]
  | succ n ih =>
    intro s i h
    by_cases hi : i < fbLen s.cfg
    · have hb : s.readWindowByte i = (Config.windowByte s.draws, { s with draws := s.draws + 1 }) := by
        rw [State.readWindowByte, if_neg (Nat.not_le.mpr hi), if_neg h]
      have hdraws : s.draws + 1 + min n (fbLen s.cfg - (i + 1)) = s.draws + min (n + 1) (fbLen s.cfg - i) := by omega
      rw [State.readWindow, hb]
      dsimp only
      rw [ih { s with draws := s.draws + 1 } (i + 1) h]
      simp [List.range_succ_eq_map, Function.comp_def, Nat.add_assoc, Nat.add_comm 1, hi, ← hdraws]
    · have hzero (k : Nat) : ¬ i + k < fbLen s.cfg := by omega
      have hnone : min (n + 1) (fbLen s.cfg - i) = 0 := by omega
      rw [s.readWindow_beyond (n + 1) (Nat.not_lt.mp hi), hnone]
      simp [hzero]

/-! ### What a read leaves for `BRBUSY` (R106) -/

theorem State.statusWord_bit_zero (s : State) : s.statusWord.getLsbD 0 = s.busy := by
  have hbit : s.statusWord.toNat % 2 = s.busy.toNat := by
    have hb := s.busy.toNat_lt
    rw [s.statusWord_toNat]
    omega
  rw [BitVec.getLsbD, Nat.testBit_zero, hbit]
  cases s.busy <;> rfl

theorem State.hostRead_status_bit_zero (s : State) : ((s.hostRead 4 4).1.headD 0).getLsbD 0 = s.busy := by
  rw [← s.statusWord_bit_zero]
  show (s.statusWord.extractLsb' 0 8).getLsbD 0 = _
  simp

theorem State.recordRead_hostRead (s : State) (off : HostOffset) (n : Nat) (t : State) :
    t.recordRead off (s.hostRead off.toNat n).1 = { t with host := { t.host with
      reads := t.host.reads ++ [⟨off, (s.hostRead off.toNat n).1⟩]
      lastBusy := if off = 0x4#22 ∧ n = 4 then s.busy else t.host.lastBusy } } := by
  have hlen := (s.hostRead_frame off.toNat n).2
  have hbit : (if off = 0x4 ∧ n = 4 then ((s.hostRead off.toNat n).1.headD 0).getLsbD 0 else t.host.lastBusy) =
      if off = 0x4#22 ∧ n = 4 then s.busy else t.host.lastBusy :=
    ite_congr rfl (by rintro ⟨rfl, rfl⟩; exact s.hostRead_status_bit_zero) fun _ => rfl
  rw [State.recordRead, hlen, hbit]

/-! ### Which steps are refused (R5, R102) -/

/-- No instruction refuses, so only `Config.wf` does. -/
theorem step_eq_refused_iff (s : State) : step s = .refused .illFormedConfig ↔ s.cfg.wf = false := by
  refine ⟨fun h => ?_, step_illFormed⟩
  cases hw : s.cfg.wf with
  | false => rfl
  | true =>
    rw [step_eq_outcome hw] at h
    cases hi : s.issue with
    | run i b t =>
      rw [hi, Issue.outcome] at h
      cases he : exec i t with
      | next u => rw [he] at h; cases h
      | fault f => rw [he] at h; cases h
      | refused r => exact absurd he (exec_ne_refused i t r)
    | done t => rw [hi] at h; cases h
    | stop f => rw [hi] at h; cases h

theorem Pin.used_iff (p : Pin) : p.used = true ↔ p ≠ .unused := by
  cases p <;> simp [Pin.used]

/-! ### `FB_SETBIT` of a coordinate in bounds (R163) -/

theorem exec_fbSetbit_inBounds {s : State} (hwf : s.cfg.wf = true) (ht : TablesReady s)
    (hb : inBounds s.cfg s.latchX.toNat s.latchY.toNat = true) :
    exec .fbSetbit s = .next (s.writePixel (nidx s.cfg s.latchX.toNat s.latchY.toNat) s.latchColour) := by
  obtain ⟨hx, hy⟩ := inBounds_iff.mp hb
  simp only [exec, execFbSetbit, State.translate_eq_direct hwf ht, translateDirect_inBounds hb,
    State.setBit_addrOf (nidx_lt_npix hwf hx hy)]

/-! ### The host while a command runs (R68, R276) -/

/-- It changes `COLLIDE` at most (R27). -/
theorem HostMove.of_busy {s t : State} (h : HostMove s t) (hb : s.busy = true) :
    ∃ (c : Bool) (d : Nat) (ho : HostAgent),
      t = { s with collide := c, draws := d, turns := s.turns.tail, host := ho } := by
  cases h with
  | quiet _ d ho => exact ⟨s.collide, d, ho, rfl⟩
  | command w _ ho => exact ⟨true, s.draws, ho, by rw [State.writeCmd_of_busy w hb]; rfl⟩
  | status v _ ho =>
    unfold State.writeStatus
    split
    · exact ⟨false, s.draws, ho, rfl⟩
    · exact ⟨s.collide, s.draws, ho, rfl⟩

/-! ### The obligations -/

/-- Settles O31: the translator gives the address of the native index, and `FB_SETBIT` is `State.writePixel` there. -/
theorem setbitWritesOneBit : Obligations.SetbitWritesOneBit := by
  intro s hwf ht hx hy n
  have hread := s.writePixel_read n (c := s.latchColour)
  exact ⟨_, setMasked (s.fbByte (n / 8)) (maskOf n) s.latchColour,
    exec_fbSetbit_inBounds hwf ht (inBounds_iff.mpr ⟨hx, hy⟩), (hread _).trans (if_pos rfl),
    fun _ hk => setMasked_maskOf_getLsbD _ n _ hk, fun _ ha => (hread _).trans (if_neg ha)⟩

/-- Settles O35: the native index is a pixel's (`nidx_lt_npix`), and `addrOf` is injective. -/
theorem translationStaysInFramebuffer : Obligations.TranslationStaysInFramebuffer := by
  intro c x y hwf hx hy
  have hn := nidx_lt_npix hwf hx hy
  refine ⟨hn, div_eight_lt_fbLen hn, ⟨7 - nidx c x y % 8, by omega, maskOf_toNat _⟩, fun p hp heq => ?_⟩
  exact absurd (addrOf_injective heq) (by omega)

/-- Settles O38: a byte and an aligned word of the window are the reads of one and of four bytes. -/
theorem windowReadsFramebuffer : Obligations.WindowReadsFramebuffer := by
  intro s i _
  have hbyte : s.hostRead (0x200000 + i) 1 = s.readWindow i 1 := s.hostRead_window (.inl rfl)
  have hword (hi : i % 4 = 0) : s.hostRead (0x200000 + i) 4 = s.readWindow i 4 := s.hostRead_window (.inr ⟨rfl, hi⟩)
  refine ⟨fun hi => ?beyond, fun hi hr hb => ?ready, fun hi hn => ?free, fun hi hr hb => ?wordReady,
    fun hi hn => ?wordFree⟩
  case beyond => rw [hbyte, s.readWindow_beyond 1 hi]; rfl
  case ready => rw [hbyte, s.readWindow_ready ⟨hr, hb⟩]; simp [hi]
  case free =>
    have hone : min 1 (fbLen s.cfg - i) = 1 := by omega
    rw [hbyte, State.readWindow_free 1 s i hn, hone]
    simp [hi]
  case wordReady => rw [hword hi, s.readWindow_ready ⟨hr, hb⟩]
  case wordFree => rw [hword hi, State.readWindow_free 4 s i hn]

/-- Settles O42: a read leaves all but the count of free values, and `State.recordRead_hostRead` is what the host
keeps of it. -/
theorem hostReadsHaveNoEffect : Obligations.HostReadsHaveNoEffect := by
  intro s off n hw ht hop r
  obtain ⟨⟨d, hd⟩, hlen⟩ := s.hostRead_frame off.toNat n
  refine ⟨hlen, ?_⟩
  rw [step_host_read hw ht hop, State.recordRead_hostRead]
  simp only [r, hd, State.withAgents]

/-- Settles O56: the moves of the host one by one. -/
theorem hostCannotDisturbRunningCommand : Obligations.HostCannotDisturbRunningCommand :=
  fun _ _ h ht hb => (HostMove.of_step ht h).of_busy hb

/-- Settles O5: by computation. -/
theorem specWordsDecode : Obligations.SpecWordsDecode :=
  ⟨rfl, rfl, rfl, rfl, rfl, rfl, rfl, rfl⟩

/-- Settles O7: `step_sequencer_run` for the sequencer, `step_host_command` for a `NOP`. -/
theorem stepRunsDecodedInstruction : Obligations.StepRunsDecodedInstruction := by
  refine ⟨fun s c i => step_sequencer_run, afterRun_false, fun t => rfl, fun s w i hwf hw hd hop => ?nop⟩
  case nop =>
    obtain rfl : .nop = i := (decodeHost_eq_nop.mpr hop).symm.trans (Except.ok.inj hd)
    rw [step_host_command hwf hw, ← State.writeCmd_withAgents, State.writeCmd, if_pos hop]
    rfl

/-- Settles O8: the cases of `State.fetch`. -/
theorem sequencerFetchesByPhase : Obligations.SequencerFetchesByPhase := by
  refine fun s hu => ⟨fun hp hw ht => step_sequencer_stuck hw ht hu hp, State.fetch_exec hu, State.fetch_initReset hu,
    fun t e hp he => ?entry, State.fetch_initBuild hu, State.fetch_buffer hu⟩
  case entry =>
    obtain ⟨hp, rfl⟩ | ⟨hp, rfl⟩ | ⟨hp, rfl⟩ := hp <;>
      exact State.fetch_entry hu (by rw [hp]; rfl) (by rw [State.phaseTable, hp]; exact he)

/-- Settles O10: by `step_eq_refused_iff`, the clauses of `Config.wf`. -/
theorem illFormedConfigRefused : Obligations.IllFormedConfigRefused := by
  intro s
  rw [step_eq_refused_iff, ← Bool.not_eq_true]
  simp only [Config.wf, Bool.and_eq_true, decide_eq_true_eq, Pin.used_iff, and_assoc]

/-- Settles O41: the host's step is `State.writeStatus`. -/
theorem statusWriteClearsCollide : Obligations.StatusWriteClearsCollide := by
  intro s v hwf hw
  have hbit : v.getLsbD 7 = decide (v.toNat / 2 ^ 7 % 2 = 1) := Nat.testBit_eq_decide_div_mod_eq
  rw [step_host_status hwf hw, State.writeStatus, hbit]
  by_cases h : v.toNat / 2 ^ 7 % 2 = 1 <;> simp only [h, decide_true, decide_false] <;> rfl

/-- Settles O59: by the operation the host is at. -/
theorem hostBranchesAndHalts : Obligations.HostBranchesAndHalts := by
  intro s hw ht
  have hop (hh : s.host.halted = false) : s.hostOp = s.host.program[s.host.pc]? := by simp [State.hostOp, hh]
  refine ⟨fun target hh hb => step_host_brBusy hw ht ((hop hh).trans hb),
    fun hh hb => step_host_halt hw ht ((hop hh).trans hb), fun hend => step_host_stuck hw ht ?stuck⟩
  case stuck =>
    obtain hh | hpc := hend
    · simp [State.hostOp, hh]
    · simp [State.hostOp, hpc]

end Sys2Proof.Machine

namespace Sys2Proof.Machine

/-! ### Block reset and the invariant (R48, R300) -/

theorem step_of_blockReset {s : State} (hw : s.cfg.wf = true) (ht : s.turn = .blockReset) :
    step s = .next s.turnTaken.blockReset :=
  step_of_done hw (State.issue_blockReset ht)

theorem BlockInv.resetOf {c : Config} (hw : c.wf = true) : BlockInv (State.resetOf c) where
  config := hw
  noUop := rfl
  busy := by simp [BusyMatchesPhase, State.resetOf]
  ctrl := ⟨nofun, nofun⟩
  resetOnce := by simp [ResetRanOnce, State.resetOf]
  txn := by simp [TxnMatchesPhase, State.resetOf]
  idx := rfl
  latch := nofun
  lut := ⟨by simp [State.resetOf], nofun⟩
  fb := ⟨rfl, fun _ _ => rfl⟩
  result := .inl rfl
  lines := ⟨fun _ => ⟨rfl, rfl, rfl, rfl⟩, fun h => absurd rfl h⟩

/-- The invariant names nothing of the other agents, nor of what the free values are numbered by. -/
theorem BlockInv.withEnv {s : State} (h : BlockInv s) (tu : List Turn) (ho : HostAgent) (an : List Wait) (d e : Nat) :
    BlockInv { s with turns := tu, host := ho, busAnswers := an, draws := d, epoch := e } :=
  ⟨h.config, h.noUop, h.busy, h.ctrl, h.resetOnce, h.txn, h.idx, h.latch, h.lut, h.fb, h.result, h.lines⟩

theorem BlockInv.turnTaken {s : State} (h : BlockInv s) : BlockInv s.turnTaken :=
  h.withEnv s.turns.tail s.host s.busAnswers s.draws s.epoch

theorem BlockInv.blockReset {s : State} (hw : s.cfg.wf = true) : BlockInv s.blockReset :=
  (BlockInv.resetOf hw).withEnv s.turns s.host s.busAnswers s.draws (s.epoch + 1)

/-! ### The obligations -/

/-- Settles O43: the step is `State.blockReset`, whose memory lists no byte. -/
theorem blockResetGivesResetValues : Obligations.BlockResetGivesResetValues := by
  intro s hw ht
  have hstatus : s.turnTaken.blockReset.statusWord = 0 := by
    apply BitVec.eq_of_toNat_eq
    rw [State.statusWord_toNat]
    simp [State.blockReset, State.resetOf, ErrCode.code, Ctrl.code]
  exact ⟨s.turnTaken.blockReset, step_of_blockReset hw ht, rfl, rfl, rfl, rfl, rfl, rfl, rfl, rfl, rfl, rfl, rfl, rfl,
    rfl, rfl, rfl, rfl, rfl, hstatus, fun _ => rfl⟩

/-- Settles O44: by `BlockInv.resetOf`. -/
theorem invHoldsAtReset : Obligations.InvHoldsAtReset :=
  ⟨fun _ => BlockInv.resetOf, BlockInv.resetOf (by decide)⟩

/-- Settles O23: by the answer the wait draws. -/
theorem tcountStaysWithinBudget : Obligations.TcountStaysWithinBudget := by
  intro s budget
  rw [s.answer_zero]
  refine ⟨fun h => ?timeout, fun h => ?ready⟩
  case timeout => rw [State.waited_timeout budget h]
  case ready => rw [State.waited_ready budget h]; exact Nat.min_le_left ..

end Sys2Proof.Machine

namespace Sys2Proof.Machine

/-! ### What a latched command does from a state of the invariant (R221-R243) -/

/-- In `READY` the tables a translation reads are those `LUT_BUILD` writes (R198). -/
theorem BlockInv.tablesReady {s : State} (hi : BlockInv s) (hr : s.ctrl = .ready) : TablesReady s := by
  intro hs
  have hv := hi.lut.1.mpr ⟨hs, .inl hr⟩
  exact ⟨hv, hi.lut.2 hv⟩

/-- What the latched command `i` does: `INIT` and `DISPLAY` start, the others end at once, having written the
framebuffer or `RESULT` in `READY` only. -/
inductive CommandMove (s : State) : Instr → State → Prop
  | initStarted (hc : s.ctrl = .uninit) :
      CommandMove s .init ({ s with ctrl := .initializing }.driveInactive.goto .initReset 0)
  | frameStarted (hc : s.ctrl = .ready) : CommandMove s .display ({ s with ctrl := .rendering }.goto .dispStart 0)
  | cleared (hc : s.ctrl = .ready) (c : Bool) : CommandMove s (.clear c) ((s.fillFb c).finish .none)
  | painted (hc : s.ctrl = .ready) (x y : Coord) (c : Bool) (n : Nat) (hn : n < npix s.cfg) :
      CommandMove s (.setPixel x y c) ((s.writePixel n c).finish .none)
  | translated (hc : s.ctrl = .ready) (x y : Coord) (n : Nat) (hn : n < npix s.cfg) :
      CommandMove s (.xlate x y) ({ s with result := resultWord (n / 8) (maskOf n) }.finish .none)
  | notTranslated (hc : s.ctrl = .ready) (x y : Coord) (e : ErrCode) :
      CommandMove s (.xlate x y) ({ s with result := 0 }.finish e)
  | ended (i : Instr) (e : ErrCode) : CommandMove s i (s.finish e)

/-- A latched command has a meaning, and it is one of `CommandMove`. -/
theorem BlockInv.exec_command {s : State} (hi : BlockInv s) {i : Instr} (hh : i.wellFormedFor .host = true)
    (hn : i ≠ .nop) : ∃ t, exec i s = .next t ∧ CommandMove s i t := by
  by_cases hreq : ∃ c, Requires i c ∧ s.ctrl ≠ c
  · obtain ⟨c, hreq, hc⟩ := hreq
    exact ⟨_, hreq.exec_wrong_ctrl hc, .ended i _⟩
  have hctrl {c : Ctrl} (h : Requires i c) : s.ctrl = c := by_contra fun hc => hreq ⟨c, h, hc⟩
  cases i <;> simp only [Instr.wellFormedFor, Bool.false_eq_true] at hh
  case nop => exact absurd rfl hn
  case init => exact ⟨_, exec_init_uninit (hctrl .init), .initStarted (hctrl .init)⟩
  case display => exact ⟨_, exec_display_ready (hctrl .display), .frameStarted (hctrl .display)⟩
  case clear c => exact ⟨_, exec_clear_ready (hctrl (.clear c)) c, .cleared (hctrl (.clear c)) c⟩
  case setPixel x y c =>
    have hr := hctrl (.setPixel x y c)
    by_cases hb : inBounds s.cfg x.toNat y.toNat = true
    · obtain ⟨hx, hy⟩ := inBounds_iff.mp hb
      exact ⟨_, exec_setPixel_inBounds hr hb hi.config (hi.tablesReady hr) c,
        .painted hr x y c _ (nidx_lt_npix hi.config hx hy)⟩
    · exact ⟨_, exec_setPixel_outOfBounds hr hb c, .ended _ _⟩
  case xlate x y =>
    have hr := hctrl (.xlate x y)
    by_cases hb : inBounds s.cfg x.toNat y.toNat = true
    · obtain ⟨hx, hy⟩ := inBounds_iff.mp hb
      exact ⟨_, exec_xlate_inBounds hr hb hi.config (hi.tablesReady hr),
        .translated hr x y _ (nidx_lt_npix hi.config hx hy)⟩
    · exact ⟨_, exec_xlate_outOfBounds hr hb, .notTranslated hr x y _⟩
  all_goals exact ⟨_, rfl, .ended _ _⟩

/-! ### The parts of the invariant that do not speak of the phase -/

/-- The parts of `BlockInv` that do not speak of the sequencer's phase: these hold inside a step as well, between a
transaction and what the step makes of its outcome. -/
structure DataInv (s : State) : Prop where
  config : s.cfg.wf = true
  noUop : s.uop = none
  lut : LutMatches s
  fb : FbWellFormed s
  result : ResultLegal s
  lines : LinesMatch s

theorem BlockInv.data {s : State} (hi : BlockInv s) : DataInv s :=
  ⟨hi.config, hi.noUop, hi.lut, hi.fb, hi.result, hi.lines⟩

section
variable {s : State} (hd : DataInv s)
include hd

theorem DataInv.goto (p : Phase) (i : SeqIdx) : DataInv (s.goto p i) :=
  ⟨hd.config, hd.noUop, hd.lut, hd.fb, hd.result, hd.lines⟩

theorem DataInv.fillFb (c : Bool) : DataInv (s.fillFb c) := by
  obtain ⟨hwf, hread⟩ := hd.fb
  refine ⟨hd.config, hd.noUop, hd.lut, ⟨Memory.fill_wf _ _ hwf, fun a ha => ?_⟩, hd.result, hd.lines⟩
  exact (Memory.read_fill ..).trans ((if_neg (Nat.not_lt.mpr ha)).trans (hread a ha))

theorem DataInv.writePixel {n : Nat} (hn : n < npix s.cfg) (c : Bool) : DataInv (s.writePixel n c) := by
  obtain ⟨hwf, hread⟩ := hd.fb
  refine ⟨hd.config, hd.noUop, hd.lut, ⟨Memory.write_wf _ _ hwf, fun a ha => ?_⟩, hd.result, hd.lines⟩
  have hne : a ≠ n / 8 := (Nat.lt_of_lt_of_le (div_eight_lt_fbLen hn) ha).ne'
  exact (s.writePixel_read n a c).trans ((if_neg hne).trans (hread a ha))

theorem DataInv.withResult {r : CmdWord} (hr : ResultLegal { s with result := r }) : DataInv { s with result := r } :=
  ⟨hd.config, hd.noUop, hd.lut, hd.fb, hr, hd.lines⟩

/-- Events and driven lines: the data/command line at one of its two levels, chip-select as the transaction has it. -/
theorem DataInv.drive (hc : s.ctrl ≠ .uninit) {dc cs : Level} {isOpen : Bool}
    (hdc : dc = dcCommand s.cfg ∨ dc = dcData s.cfg) (hcs : cs = if isOpen then csActive s.cfg else csInactive s.cfg)
    (n : Nat) (an : List Wait) (d : Nat) (tr : List Event) :
    DataInv { s with
      lineDc := dc, lineCs := cs, txnOpen := isOpen, tcount := n, busAnswers := an, draws := d, trace := tr } :=
  ⟨hd.config, hd.noUop, hd.lut, hd.fb, hd.result, fun h => absurd h hc, fun _ => ⟨hdc, hcs, (hd.lines.2 hc).2.2⟩⟩

/-- Between two states of the controller with the lines driven, `LUT_VALID` must fit the new one. -/
theorem DataInv.withCtrl (hc : s.ctrl ≠ .uninit) {c : Ctrl} (hc' : c ≠ .uninit)
    (hl : s.lutValid = true ↔ s.cfg.strategy = .lut ∧ (c = .ready ∨ c = .rendering)) (b : Bool) :
    DataInv { s with ctrl := c, torn := b } :=
  ⟨hd.config, hd.noUop, ⟨hl, hd.lut.2⟩, hd.fb, hd.result, fun h => absurd h hc', fun _ => hd.lines.2 hc⟩

/-- At a command's end (R272). -/
theorem DataInv.finish (hc : s.ctrl ≠ .initializing ∧ s.ctrl ≠ .rendering)
    (hr : s.rstDone = true ↔ s.ctrl ≠ .uninit) (hx : s.txnOpen = false) (e : ErrCode) : BlockInv (s.finish e) where
  config := hd.config
  noUop := hd.noUop
  busy := by simp [BusyMatchesPhase]
  ctrl := hc
  resetOnce := by simpa [ResetRanOnce] using hr
  txn := by simp [TxnMatchesPhase, hx]
  idx := rfl
  latch := nofun
  lut := hd.lut
  fb := hd.fb
  result := hd.result
  lines := hd.lines

/-- In a phase past the reset pulse. -/
theorem DataInv.working (hb : s.busy = true) (hr : s.rstDone = true) (hc : s.ctrl ≠ .uninit)
    (hp : s.phase ≠ .idle ∧ s.phase ≠ .exec ∧ s.phase ≠ .initReset) (hctrl : PhaseMatchesCtrl s)
    (hx : TxnMatchesPhase s) (hidx : IdxInRange s) : BlockInv s where
  config := hd.config
  noUop := hd.noUop
  busy := by simp [BusyMatchesPhase, hb, hp.1]
  ctrl := hctrl
  resetOnce := by simp [ResetRanOnce, hr, hc, hp.2.2]
  txn := hx
  idx := hidx
  latch := fun h => absurd h hp.2.1
  lut := hd.lut
  fb := hd.fb
  result := hd.result
  lines := hd.lines

end

/-! ### Protocol tables of a well-formed configuration (R102) -/

theorem Config.wf_tables {c : Config} (h : c.wf = true) :
    tableWf c.initSeq = true ∧ tableWf c.frameStartSeq = true ∧ tableWf c.frameCommitSeq = true := by
  simp only [Config.wf, Bool.and_eq_true] at h
  tauto

theorem tableWf_length {t : List Entry} (h : tableWf t = true) : 0 < t.length ∧ t.length ≤ 65536 := by
  simp only [tableWf, Bool.and_eq_true, decide_eq_true_eq] at h
  exact h.1

/-- Entry `k` of a table ends it where it is the last, and sends a byte elsewhere. -/
theorem tableWf_entry {t : List Entry} (h : tableWf t = true) {k : Nat} (hk : k < t.length) :
    (k + 1 = t.length ∧ t[k]? = some 0x0000#16) ∨
    (k + 1 < t.length ∧ ∃ e, t[k]? = some e ∧ entrySends e = true) := by
  simp only [tableWf, Bool.and_eq_true] at h
  obtain ⟨hend, hsend⟩ := ((tableShape_iff t).mp h.2).2 k hk
  rw [List.getElem?_eq_getElem hk, Option.some_inj]
  by_cases hlast : k + 1 = t.length
  · exact .inl ⟨hlast, hend.mpr hlast⟩
  · exact .inr ⟨by omega, _, rfl, hsend (by omega)⟩

/-! ### Commands keep the invariant -/

section
variable {s : State} (hi : BlockInv s) (hp : s.phase = .exec)
include hi hp

/-- In `EXEC`, whatever a command writes first, its end gives a state of the invariant. -/
theorem BlockInv.finish_of_exec {t : State} (hd : DataInv t) (hc : t.ctrl = s.ctrl) (hr : t.rstDone = s.rstDone)
    (hx : t.txnOpen = s.txnOpen) (e : ErrCode) : BlockInv (t.finish e) := by
  have hctrl := hi.ctrl
  have hreset := hi.resetOnce
  have htxn := hi.txn
  simp only [PhaseMatchesCtrl, ResetRanOnce, TxnMatchesPhase, hp] at hctrl hreset htxn
  refine hd.finish (hc ▸ hctrl) ?_ (by simpa [hx] using htxn) e
  rw [hc, hr]
  simpa using hreset

theorem BlockInv.init_started (hc : s.ctrl = .uninit) :
    BlockInv ({ s with ctrl := .initializing }.driveInactive.goto .initReset 0) := by
  have hreset : s.rstDone = false := by simpa [ResetRanOnce, hc] using hi.resetOnce
  have htxn : s.txnOpen = false := by simpa [TxnMatchesPhase, hp] using hi.txn
  have hlut : s.lutValid = false := by simpa [hc] using hi.lut.1
  rw [State.driveInactive_eq]
  exact { hi with
    busy := by simp [BusyMatchesPhase, hi.busy.mpr (by simp [hp])]
    ctrl := rfl
    resetOnce := by simp [ResetRanOnce, hreset]
    txn := by simp [TxnMatchesPhase, htxn]
    idx := rfl
    latch := nofun
    lut := ⟨by simp [hlut], hi.lut.2⟩
    lines := ⟨nofun, fun _ => ⟨.inl rfl, by simp [htxn], rfl⟩⟩ }

theorem BlockInv.frame_started (hc : s.ctrl = .ready) :
    BlockInv ({ s with ctrl := .rendering }.goto .dispStart 0) := by
  have hreset : s.rstDone = true := hi.resetOnce.mpr ⟨by simp [hc], by simp [hp]⟩
  have htxn : s.txnOpen = false := by simpa [TxnMatchesPhase, hp] using hi.txn
  have hlut : s.lutValid = true ↔ s.cfg.strategy = .lut ∧ (Ctrl.rendering = .ready ∨ Ctrl.rendering = .rendering) := by
    simpa [hc] using hi.lut.1
  have hd := hi.data.withCtrl (by simp [hc]) (by decide) hlut s.torn
  exact (hd.goto .dispStart 0).working (hi.busy.mpr (by simp [hp])) hreset (by simp) (by simp) rfl
    (by simp [TxnMatchesPhase, htxn]) (tableWf_length (Config.wf_tables hi.config).2.1).1

theorem CommandMove.keepsInv {i : Instr} {t : State} (hm : CommandMove s i t) : BlockInv t := by
  cases hm with
  | initStarted hc => exact hi.init_started hp hc
  | frameStarted hc => exact hi.frame_started hp hc
  | cleared _ c => exact hi.finish_of_exec hp (hi.data.fillFb c) rfl rfl rfl _
  | painted _ _ _ c n hn => exact hi.finish_of_exec hp (hi.data.writePixel hn c) rfl rfl rfl _
  | translated _ _ _ n hn =>
    have hr : ResultLegal { s with result := resultWord (n / 8) (maskOf n) } :=
      .inr ⟨_, _, div_eight_lt_fbLen hn, oneHot_maskOf n, rfl⟩
    exact hi.finish_of_exec hp (hi.data.withResult hr) rfl rfl rfl _
  | notTranslated => exact hi.finish_of_exec hp (hi.data.withResult (.inl rfl)) rfl rfl rfl _
  | ended => exact hi.finish_of_exec hp hi.data rfl rfl rfl _

end

end Sys2Proof.Machine

namespace Sys2Proof.Machine

/-! ### Table entries that send a byte (R123, R124, R140) -/

/-- The events of a single-byte transaction whose waits draw `READY` (R123, R124). -/
def sentEvents (c : Config) (dc : Level) (b : Byte) : List Event :=
  openEvents c dc ++ [Event.byte b, Event.done, Event.line .cs (csInactive c)]

/-- An entry that sends is one transaction, with its own level of the data/command line. -/
theorem entrySends_transaction {e : Entry} (h : entrySends e = true) (c : Config) :
    ∃ i dc b, decodeEntry e = .ok i ∧ (dc = dcCommand c ∨ dc = dcData c) ∧
      (∀ s : State, s.cfg = c → exec i s = s.sendEntry dc b) ∧
      entryEvents c e = sentEvents c dc b := by
  obtain ⟨hkind, hrsv⟩ := entrySends_iff.mp h
  have hbyte := byteField_toNat e
  obtain hkind | hkind := hkind
  · have hd : decodeEntry e = .ok (.cmd (byteField e)) :=
      (tableEntriesDecodeToThree _ _).mpr (.inr (.inl ⟨_, by omega, rfl⟩))
    exact ⟨_, dcCommand c, byteField e, hd, .inl rfl, by rintro s rfl; rfl, by rw [entryEvents, hd]; rfl⟩
  · have hd : decodeEntry e = .ok (.data (byteField e)) :=
      (tableEntriesDecodeToThree _ _).mpr (.inr (.inr ⟨_, by omega, rfl⟩))
    exact ⟨_, dcData c, byteField e, hd, .inr rfl, by rintro s rfl; rfl, by rw [entryEvents, hd]; rfl⟩

theorem SeqIdx.succ_toNat {i : SeqIdx} (h : i.toNat < 2 ^ 21) : (i + 1).toNat = i.toNat + 1 := by
  rw [BitVec.toNat_add, show (1 : SeqIdx).toNat = 1 from rfl]
  omega

theorem fbLen_pos {c : Config} (hwf : c.wf = true) : 0 < fbLen c := by
  obtain ⟨hw, -, hh, -⟩ := Config.wf_sizes hwf
  exact Nat.zero_lt_of_lt (div_eight_lt_fbLen (Nat.mul_pos hw hh))

/-! ### What the invariant says of a phase that is running -/

section
variable {s : State} (hi : BlockInv s)
include hi

theorem BlockInv.ctrl_ne_uninit (hp : s.phase ≠ .idle ∧ s.phase ≠ .exec) : s.ctrl ≠ .uninit := by
  have hctrl := hi.ctrl
  unfold PhaseMatchesCtrl at hctrl
  split at hctrl <;> simp_all

theorem BlockInv.rstDone_of_phase (hp : s.phase ≠ .idle ∧ s.phase ≠ .exec ∧ s.phase ≠ .initReset) :
    s.rstDone = true :=
  hi.resetOnce.mpr ⟨hi.ctrl_ne_uninit ⟨hp.1, hp.2.1⟩, hp.2.2⟩

theorem BlockInv.txnClosed (hp : s.phase ≠ .dispBuf ∧ s.phase ≠ .dispBufClose) : s.txnOpen = false := by
  simpa [TxnMatchesPhase, hp] using hi.txn

end

section
variable {s : State} (hp : s.phase.runsTable = true)
include hp

theorem State.running_of_runsTable : s.phase ≠ .idle ∧ s.phase ≠ .exec ∧ s.phase ≠ .initReset ∧ s.phase ≠ .initBuild ∧
    s.phase ≠ .dispBuf ∧ s.phase ≠ .dispBufClose := by
  obtain hp | hp | hp := s.phase.runsTable_iff.mp hp <;> simp [hp]

/-- In a phase that runs a table, `seq.idx` is in the table. -/
theorem idxInRange_iff_of_runsTable : IdxInRange s ↔ s.idx.toNat < s.phaseTable.length := by
  obtain hp | hp | hp := s.phase.runsTable_iff.mp hp <;> simp only [State.phaseTable, IdxInRange, hp]

theorem BlockInv.phaseTable_wf (hi : BlockInv s) : tableWf s.phaseTable = true := by
  obtain ⟨hinit, hstart, hcommit⟩ := Config.wf_tables hi.config
  obtain hp | hp | hp := s.phase.runsTable_iff.mp hp <;> simpa only [State.phaseTable, hp]

end

/-! ### The ends of `INIT` and `DISPLAY` (R226, R227, R238, R239) -/

section
variable {s : State} (hd : DataInv s) (hr : s.rstDone = true) (hx : s.txnOpen = false)
include hd hr hx

/-- `display_done()` and `display_abort()`. -/
theorem DataInv.frameEnd (hc : s.ctrl = .rendering) (b : Bool) (e : ErrCode) :
    BlockInv ({ s with ctrl := .ready, torn := b }.finish e) := by
  have hlut := hd.lut.1
  rw [hc] at hlut
  exact (hd.withCtrl (by simp [hc]) (by decide) (by simpa using hlut) b).finish (by simp) (by simp [hr]) hx e

theorem DataInv.initFail (hc : s.ctrl = .initializing) : BlockInv s.initFail := by
  have hlut := hd.lut.1
  rw [hc] at hlut
  exact (hd.withCtrl (c := .failed) (by simp [hc]) (by decide) (by simpa using hlut) s.torn).finish (by simp)
    (by simp [hr]) hx _

/-- The whole `INIT_BUILD` step: the tables where there are any, then `READY`. -/
theorem DataInv.build (hc : s.ctrl = .initializing) : BlockInv s.withTables.buildDone := by
  have hlut : s.lutValid = false := by simpa [hc] using hd.lut.1
  by_cases hs : s.cfg.strategy = .lut
  · have hbuilt : DataInv { s.buildLut with ctrl := .ready } :=
      ⟨hd.config, hd.noUop, ⟨by simp [hs], fun _ => ⟨rfl, rfl⟩⟩, hd.fb, hd.result, nofun,
        fun _ => hd.lines.2 (by simp [hc])⟩
    rw [State.withTables, if_pos hs]
    exact hbuilt.finish (by simp) (by simp [hr]) hx _
  · rw [State.withTables, if_neg hs]
    exact (hd.withCtrl (c := .ready) (by simp [hc]) (by decide) (by simp [hlut, hs]) s.torn).finish (by simp)
      (by simp [hr]) hx _

end

/-! ### The sequencer's phases keep the invariant -/

section
variable {s : State} (hi : BlockInv s)
include hi

theorem BlockInv.pulse (hp : s.phase = .initReset) : BlockInv s.pulseReset := by
  have hctrl : s.ctrl = .initializing := by simpa only [PhaseMatchesCtrl, hp] using hi.ctrl
  have hc : s.ctrl ≠ .uninit := by simp [hctrl]
  obtain ⟨hdc, hcs, -⟩ := hi.lines.2 hc
  rw [State.pulseReset_eq]
  exact { hi with
    busy := by simp [BusyMatchesPhase, hi.busy.mpr (by simp [hp])]
    ctrl := hctrl
    resetOnce := by simp [ResetRanOnce, hctrl]
    txn := by simp [TxnMatchesPhase, hi.txnClosed (by simp [hp])]
    idx := (tableWf_length (Config.wf_tables hi.config).1).1
    latch := nofun
    lines := ⟨fun h => absurd h hc, fun _ => ⟨hdc, hcs, rfl⟩⟩ }

/-- A table entry is sent: the next entry, or on `TIMEOUT` the command's end (R140). -/
theorem BlockInv.sent (hp : s.phase.runsTable = true) (hlt : s.idx.toNat + 1 < s.phaseTable.length) {dc : Level}
    (hdc : dc = dcCommand s.cfg ∨ dc = dcData s.cfg) (b : Byte) : BlockInv (State.afterEntry (s.sendByte dc b)) := by
  obtain ⟨hidle, hexec, hreset, hbuild, hbuf, hclose⟩ := State.running_of_runsTable hp
  have hr := hi.rstDone_of_phase ⟨hidle, hexec, hreset⟩
  have hc := hi.ctrl_ne_uninit ⟨hidle, hexec⟩
  obtain ⟨n, an, d, tr, hsent⟩ := s.sendByte_state dc b
  have hd : DataInv (s.sendByte dc b).2 := hsent ▸ hi.data.drive hc (isOpen := false) hdc rfl n an d tr
  unfold State.afterEntry
  rw [hsent] at hd ⊢
  split
  case h_1 =>
    have hlen := (tableWf_length (hi.phaseTable_wf hp)).2
    have hidx : (s.idx + 1).toNat < s.phaseTable.length := by rwa [SeqIdx.succ_toNat (by omega)]
    refine (hd.goto s.phase (s.idx + 1)).working (hi.busy.mpr hidle) hr hc ⟨hidle, hexec, hreset⟩ hi.ctrl
      (by simp [TxnMatchesPhase, hbuf, hclose]) ((idxInRange_iff_of_runsTable ?_).mpr hidx)
    exact hp
  case h_2 =>
    split
    case isTrue hp => exact hd.initFail hr rfl (hi.initializing (.inl hp))
    case isFalse hne =>
      have hrender : s.ctrl = .rendering := by
        obtain hp | hp | hp := s.phase.runsTable_iff.mp hp
        · exact absurd hp hne
        · exact hi.rendering (.inl hp)
        · exact hi.rendering (.inr (.inr (.inr hp)))
      exact hd.frameEnd hr rfl hrender true _

theorem BlockInv.tableEnded_init (hp : s.phase = .initSeq) : BlockInv (s.goto .initBuild 0) := by
  have hctrl := hi.initializing (.inl hp)
  exact (hi.data.goto .initBuild 0).working (hi.busy.mpr (by simp [hp])) (hi.rstDone_of_phase (by simp [hp]))
    (by simp [hctrl]) (by simp) hctrl (by simp [TxnMatchesPhase, hi.txnClosed, hp]) rfl

theorem BlockInv.tableEnded_start (hp : s.phase = .dispStart) : BlockInv (s.goto .dispBufOpen 0) := by
  have hctrl := hi.rendering (.inl hp)
  exact (hi.data.goto .dispBufOpen 0).working (hi.busy.mpr (by simp [hp])) (hi.rstDone_of_phase (by simp [hp]))
    (by simp [hctrl]) (by simp) hctrl (by simp [TxnMatchesPhase, hi.txnClosed, hp]) rfl

theorem BlockInv.tableEnded_commit (hp : s.phase = .dispCommit) : BlockInv s.displayDone :=
  hi.data.frameEnd (hi.rstDone_of_phase (by simp [hp])) (hi.txnClosed (by simp [hp]))
    (hi.rendering (.inr (.inr (.inr hp)))) false .none

theorem BlockInv.built (hp : s.phase = .initBuild) : BlockInv s.withTables.buildDone :=
  hi.data.build (hi.rstDone_of_phase (by simp [hp])) (hi.txnClosed (by simp [hp])) (hi.initializing (.inr hp))

theorem BlockInv.opened (hp : s.phase = .dispBufOpen) : BlockInv s.openBuffer := by
  have hctrl : s.ctrl = .rendering := by simpa only [PhaseMatchesCtrl, hp] using hi.ctrl
  have hd := hi.data.drive (by simp [hctrl]) (isOpen := true) (.inr rfl) rfl s.tcount s.busAnswers s.draws
    (s.trace ++ openEvents s.cfg (dcData s.cfg))
  rw [State.openBuffer_eq]
  exact (hd.goto .dispBuf 0).working (hi.busy.mpr (by simp [hp])) (hi.rstDone_of_phase (by simp [hp]))
    (by simp [hctrl]) (by simp) hctrl (by simp [TxnMatchesPhase]) (fbLen_pos hi.config)

/-- In the buffer transaction: a wait that ends `TIMEOUT` abandons the frame (R125, R239). -/
theorem BlockInv.frameAbandoned (hp : s.phase = .dispBuf ∨ s.phase = .dispBufClose) (n : Nat)
    (ha : s.nextAnswer = .timeout) : BlockInv (s.waited n).abortTxn.displayAbort := by
  have hctrl := hi.rendering (hp.elim (fun h => .inr (.inl h)) fun h => .inr (.inr (.inl h)))
  have hc : s.ctrl ≠ .uninit := by simp [hctrl]
  have hr := hi.rstDone_of_phase (by obtain hp | hp := hp <;> simp [hp])
  rw [State.abandonFrame_eq n ha]
  exact (hi.data.drive hc (isOpen := false) (hi.lines.2 hc).1 rfl n s.busAnswers.tail (s.draws + 1)
    (s.trace ++ [Event.abort, Event.line .cs (csInactive s.cfg)])).frameEnd hr rfl hctrl true .transportTimeout

theorem BlockInv.streamed (hp : s.phase = .dispBuf) : BlockInv s.streamByte := by
  have hctrl := hi.rendering (.inr (.inl hp))
  have hc : s.ctrl ≠ .uninit := by simp [hctrl]
  have hidx : s.idx.toNat < fbLen s.cfg := by simpa only [IdxInRange, hp] using hi.idx
  have hbusy := hi.busy.mpr (by simp [hp])
  have hr := hi.rstDone_of_phase (by simp [hp])
  have hopen := hi.txn.mpr (.inl hp)
  cases ha : s.nextAnswer with
  | timeout => rw [State.streamByte_timeout ha]; exact hi.frameAbandoned (.inl hp) _ ha
  | ready =>
    have hd := hi.data.drive hc (hi.lines.2 hc).1 (hi.lines.2 hc).2.1 (min s.cfg.tAccept (Config.readyTick s.draws))
      s.busAnswers.tail (s.draws + 1) (s.trace ++ [Event.byte (s.fbByte s.idx.toNat)])
    rw [State.streamByte_ready ha]
    by_cases hlt : s.idx.toNat + 1 < fbLen s.cfg
    · have hnext : (s.idx + 1).toNat < fbLen s.cfg := by
        rwa [SeqIdx.succ_toNat (hidx.trans_le (fbLen_le hi.config))]
      simp only [if_pos hlt, hp]
      exact (hd.goto .dispBuf (s.idx + 1)).working hbusy hr hc (by simp) hctrl (by simp [TxnMatchesPhase, hopen])
        hnext
    · simp only [if_neg hlt]
      exact (hd.goto .dispBufClose 0).working hbusy hr hc (by simp) hctrl (by simp [TxnMatchesPhase, hopen]) rfl

theorem BlockInv.closed (hp : s.phase = .dispBufClose) : BlockInv s.closeBuffer := by
  have hctrl := hi.rendering (.inr (.inr (.inl hp)))
  have hc : s.ctrl ≠ .uninit := by simp [hctrl]
  cases ha : s.nextAnswer with
  | timeout => rw [State.closeBuffer_timeout ha]; exact hi.frameAbandoned (.inr hp) _ ha
  | ready =>
    have hd := hi.data.drive hc (isOpen := false) (hi.lines.2 hc).1 rfl
      (min s.cfg.tComplete (Config.readyTick s.draws)) s.busAnswers.tail (s.draws + 1)
      (s.trace ++ [Event.done, Event.line .cs (csInactive s.cfg)])
    rw [State.closeBuffer_ready ha]
    exact (hd.goto .dispCommit 0).working (hi.busy.mpr (by simp [hp])) (hi.rstDone_of_phase (by simp [hp])) hc
      (by simp) hctrl (by simp [TxnMatchesPhase]) (tableWf_length (Config.wf_tables hi.config).2.2).1

end

/-! ### The sequencer's step in each phase -/

section
variable {s : State} (hi : BlockInv s) (ht : s.turn = .sequencer)
include hi ht

theorem BlockInv.step_run {c : Code} {i : Instr} (hf : s.fetch = .ok (some c)) (hd : decode c = .ok i)
    (hp : s.phase ≠ .initBuild) : step s = exec i s.turnTaken := by
  rw [step_sequencer_run hi.config ht hf hd, State.inBuild_of_phase_ne hp, afterRun_false,
    State.turnTaken_uop_none hi.noUop]

theorem BlockInv.step_exec (hp : s.phase = .exec) : step s = exec (decodeHost s.latch) s.turnTaken :=
  hi.step_run ht (State.fetch_exec hi.noUop hp (hi.latch hp)) rfl (by simp [hp])

theorem BlockInv.step_initReset (hp : s.phase = .initReset) : step s = .next s.turnTaken.pulseReset := by
  have hr : s.rstDone = false := by simpa [ResetRanOnce, hp] using hi.resetOnce
  rw [hi.step_run ht (State.fetch_initReset hi.noUop hp) (i := .resetPulse) rfl (by simp [hp])]
  simp [exec, execResetPulse, hr]

theorem BlockInv.step_initBuild (hp : s.phase = .initBuild) : step s = .next s.turnTaken.withTables.buildDone := by
  obtain ⟨hnone, hlut⟩ := initBuildMakesReady s hi.config ht hi.noUop hp
  by_cases hs : s.cfg.strategy = .lut
  · rw [hlut hs, State.withTables, State.turnTaken_cfg, if_pos hs]; rfl
  · rw [hnone hs, State.withTables, State.turnTaken_cfg, if_neg hs]; rfl

theorem BlockInv.step_sendBuffer (hp : s.phase = .dispBufOpen ∨ s.phase = .dispBuf ∨ s.phase = .dispBufClose) :
    step s = exec .sendBuffer s.turnTaken :=
  hi.step_run ht (State.fetch_buffer hi.noUop hp) rfl (by obtain hp | hp | hp := hp <;> simp [hp])

theorem BlockInv.step_entry (hp : s.phase.runsTable = true) {e : Entry} {i : Instr}
    (he : s.phaseTable[s.idx.toNat]? = some e) (hd : decodeEntry e = .ok i) : step s = exec i s.turnTaken := by
  obtain ⟨-, -, -, hbuild, -⟩ := State.running_of_runsTable hp
  exact hi.step_run ht (State.fetch_entry hi.noUop hp he) hd hbuild

theorem BlockInv.step_transaction (hp : s.phase.runsTable = true) {e : Entry}
    (he : s.phaseTable[s.idx.toNat]? = some e) (hs : entrySends e = true) :
    ∃ dc b, (dc = dcCommand s.cfg ∨ dc = dcData s.cfg) ∧
      entryEvents s.cfg e = sentEvents s.cfg dc b ∧
      step s = .next (State.afterEntry (s.turnTaken.sendByte dc b)) := by
  obtain ⟨hidle, hexec, hreset, -⟩ := State.running_of_runsTable hp
  obtain ⟨i, dc, b, hd, hdc, hsend, hev⟩ := entrySends_transaction hs s.cfg
  refine ⟨dc, b, hdc, hev, ?_⟩
  rw [hi.step_entry ht hp he hd, hsend s.turnTaken rfl]
  exact State.sendEntry_of_rstDone (s := s.turnTaken) hp (hi.rstDone_of_phase ⟨hidle, hexec, hreset⟩) dc b

theorem BlockInv.step_tableEnd (hp : s.phase.runsTable = true) (he : s.phaseTable[s.idx.toNat]? = some 0x0000#16) :
    (s.phase = .initSeq → step s = .next (s.turnTaken.goto .initBuild 0)) ∧
    (s.phase = .dispStart → step s = .next (s.turnTaken.goto .dispBufOpen 0)) ∧
    (s.phase = .dispCommit → step s = .next s.turnTaken.displayDone) := by
  rw [hi.step_entry ht hp he (i := .endSeq) rfl]
  exact endMovesToNextPhase s.turnTaken

/-! ### Every step keeps the invariant -/

theorem BlockInv.step_runsTable (hp : s.phase.runsTable = true) : ∃ t, step s = .next t ∧ BlockInv t := by
  obtain ⟨-, he⟩ | ⟨hlt, e, he, hs⟩ :=
    tableWf_entry (hi.phaseTable_wf hp) ((idxInRange_iff_of_runsTable hp).mp hi.idx)
  · obtain ⟨hinit, hstart, hcommit⟩ := hi.step_tableEnd ht hp he
    obtain hp | hp | hp := s.phase.runsTable_iff.mp hp
    · exact ⟨_, hinit hp, hi.turnTaken.tableEnded_init hp⟩
    · exact ⟨_, hstart hp, hi.turnTaken.tableEnded_start hp⟩
    · exact ⟨_, hcommit hp, hi.turnTaken.tableEnded_commit hp⟩
  · obtain ⟨dc, b, hdc, -, hstep⟩ := hi.step_transaction ht hp he hs
    exact ⟨_, hstep, hi.turnTaken.sent hp hlt hdc b⟩

theorem BlockInv.step_sequencer (hp : s.phase ≠ .idle) : ∃ t, step s = .next t ∧ BlockInv t := by
  cases h : s.phase with
  | idle => exact absurd h hp
  | exec =>
    have hn : decodeHost s.latch ≠ .nop := fun hd => hi.latch h (decodeHost_eq_nop.mp hd)
    obtain ⟨t, hexec, hm⟩ := hi.turnTaken.exec_command (decodeHost_wellFormedFor _) hn
    exact ⟨t, (hi.step_exec ht h).trans hexec, hm.keepsInv hi.turnTaken h⟩
  | initReset => exact ⟨_, hi.step_initReset ht h, hi.turnTaken.pulse h⟩
  | initSeq => exact hi.step_runsTable ht (by rw [h]; rfl)
  | initBuild => exact ⟨_, hi.step_initBuild ht h, hi.turnTaken.built h⟩
  | dispStart => exact hi.step_runsTable ht (by rw [h]; rfl)
  | dispBufOpen =>
    exact ⟨_, (hi.step_sendBuffer ht (.inl h)).trans (exec_sendBuffer_open h), hi.turnTaken.opened h⟩
  | dispBuf =>
    have hidx : s.idx.toNat < fbLen s.cfg := by simpa only [IdxInRange, h] using hi.idx
    exact ⟨_, (hi.step_sendBuffer ht (.inr (.inl h))).trans (exec_sendBuffer_byte h hidx), hi.turnTaken.streamed h⟩
  | dispBufClose =>
    exact ⟨_, (hi.step_sendBuffer ht (.inr (.inr h))).trans (exec_sendBuffer_close h), hi.turnTaken.closed h⟩
  | dispCommit => exact hi.step_runsTable ht (by rw [h]; rfl)

end

section
variable {s : State} (hi : BlockInv s)
include hi

theorem BlockInv.writeCmd (w : CmdWord) : BlockInv (s.writeCmd w) := by
  cases hb : s.busy with
  | true =>
    rw [State.writeCmd_of_busy w hb]
    exact { hi with }
  | false =>
    rw [State.writeCmd_of_idle w hb]
    split
    case isTrue => exact hi
    case isFalse hop =>
      have hp : s.phase = .idle := by simpa [BusyMatchesPhase, hb] using hi.busy
      have hctrl := hi.ctrl
      have hreset := hi.resetOnce
      simp only [PhaseMatchesCtrl, ResetRanOnce, hp] at hctrl hreset
      exact { hi with
        busy := by simp [BusyMatchesPhase]
        ctrl := hctrl
        resetOnce := by simpa [ResetRanOnce] using hreset
        txn := by simp [TxnMatchesPhase, hi.txnClosed, hp]
        idx := rfl
        latch := fun _ => hop }

theorem BlockInv.writeStatus (v : CmdWord) : BlockInv (s.writeStatus v) := by
  unfold State.writeStatus
  split
  · exact { hi with }
  · exact hi

theorem HostMove.keepsInv {t : State} (hm : HostMove s t) : BlockInv t := by
  cases hm with
  | quiet _ d ho => exact hi.withEnv s.turns.tail ho s.busAnswers d s.epoch
  | command w _ ho => exact (hi.writeCmd w).withEnv s.turns.tail ho _ _ _
  | status v _ ho => exact (hi.writeStatus v).withEnv s.turns.tail ho _ _ _

end

/-- The host's turn has a step unless its program has ended. -/
theorem step_host_next {s : State} {op : HostOp} (hw : s.cfg.wf = true) (ht : s.turn = .host)
    (hop : s.hostOp = some op) : ∃ t, step s = .next t := by
  cases op with
  | read off n => exact ⟨_, step_host_read hw ht hop⟩
  | brBusy target => exact ⟨_, step_host_brBusy hw ht hop⟩
  | halt => exact ⟨_, step_host_halt hw ht hop⟩
  | write off n v =>
    by_cases hcmd : n = 4 ∧ off = 0x0#22
    · obtain ⟨rfl, rfl⟩ := hcmd
      exact ⟨_, step_host_command hw ⟨ht, hop⟩⟩
    by_cases hstatus : n = 4 ∧ off = 0x4#22
    · obtain ⟨rfl, rfl⟩ := hstatus
      exact ⟨_, step_host_status hw ⟨ht, hop⟩⟩
    exact ⟨_, step_host_write_elsewhere hw ht hop fun hn =>
      ⟨fun h0 => hcmd ⟨hn, BitVec.eq_of_toNat_eq h0⟩, fun h4 => hstatus ⟨hn, BitVec.eq_of_toNat_eq h4⟩⟩⟩

/-- Settles O45: by whose turn it is; the sequencer's step phase by phase (`BlockInv.step_sequencer`). -/
theorem stepKeepsInv : Obligations.StepKeepsInv := by
  intro s t hi h
  cases ht : s.turn with
  | host => exact (HostMove.of_step ht h).keepsInv hi
  | blockReset => rw [step_blockReset ht h]; exact BlockInv.blockReset hi.turnTaken.config
  | sequencer =>
    by_cases hp : s.phase = .idle
    · rw [step_sequencer_stuck hi.config ht hi.noUop hp] at h
      cases h
    · obtain ⟨u, hu, hinv⟩ := hi.step_sequencer ht hp
      obtain rfl : u = t := Host.Outcome.next.inj (hu.symm.trans h)
      exact hinv

/-- Settles O46: by whose turn it is; the sequencer has a step outside `IDLE` (`BlockInv.step_sequencer`). -/
theorem noFaultFromInv : Obligations.NoFaultFromInv := by
  intro s hi
  cases ht : s.turn with
  | blockReset => exact .inl ⟨_, step_of_blockReset hi.config ht⟩
  | host =>
    cases hop : s.hostOp with
    | none => exact .inr (.inr ⟨step_host_stuck hi.config ht hop, rfl, rfl⟩)
    | some op => exact .inl (step_host_next hi.config ht hop)
  | sequencer =>
    by_cases hp : s.phase = .idle
    · exact .inr (.inl ⟨step_sequencer_stuck hi.config ht hi.noUop hp, rfl, hp⟩)
    · obtain ⟨t, h, -⟩ := hi.step_sequencer ht hp
      exact .inl ⟨t, h⟩

end Sys2Proof.Machine

namespace Sys2Proof.Machine

/-! ### The trace and the configuration (R5, R45) -/

/-- From `s` to `t` configuration and schedule stay and the trace gains events at its end. -/
def Appends (s t : State) : Prop := (t.cfg = s.cfg ∧ t.turns = s.turns) ∧ ∃ es, t.trace = s.trace ++ es

theorem Appends.of_eq {s t : State} (h : t.cfg = s.cfg ∧ t.turns = s.turns) (ht : t.trace = s.trace) : Appends s t :=
  ⟨h, [], by rw [ht, List.append_nil]⟩

section
variable (s : State)

theorem State.sendEntry_appends {t : State} {dc : Level} {b : Byte} (h : s.sendEntry dc b = .next t) :
    Appends s t := by
  have hsent : Appends s (s.sendByte dc b).2 := by
    obtain ⟨h₀, h₁⟩ | h₀ | ⟨h₀, h₁⟩ := s.answers_cases
    · rw [s.sendByte_ready dc b h₀ h₁]; exact ⟨⟨rfl, rfl⟩, _, rfl⟩
    · rw [s.sendByte_acceptTimeout dc b h₀]; exact ⟨⟨rfl, rfl⟩, _, rfl⟩
    · rw [s.sendByte_completeTimeout dc b h₀ h₁]; exact ⟨⟨rfl, rfl⟩, _, rfl⟩
  unfold State.sendEntry at h
  split_ifs at h
  cases h
  unfold State.afterEntry
  split
  · exact hsent
  · split <;> exact hsent

theorem State.streamByte_appends : Appends s s.streamByte := by
  cases ha : s.nextAnswer with
  | ready => rw [State.streamByte_ready ha]; exact ⟨⟨rfl, rfl⟩, _, rfl⟩
  | timeout => rw [State.streamByte_timeout ha, State.abandonFrame_eq _ ha]; exact ⟨⟨rfl, rfl⟩, _, rfl⟩

theorem State.closeBuffer_appends : Appends s s.closeBuffer := by
  cases ha : s.nextAnswer with
  | ready => rw [State.closeBuffer_ready ha]; exact ⟨⟨rfl, rfl⟩, _, rfl⟩
  | timeout => rw [State.closeBuffer_timeout ha, State.abandonFrame_eq _ ha]; exact ⟨⟨rfl, rfl⟩, _, rfl⟩

end

theorem exec_command_appends {i : Instr} {s t : State} (hi : i.wellFormedFor .host = true) (h : exec i s = .next t) :
    Appends s t := by
  by_cases hn : i = .nop
  · subst hn
    cases h
    split <;> exact .of_eq ⟨rfl, rfl⟩ rfl
  · obtain ⟨-, -, rfl⟩ | ⟨-, -, rfl⟩ | ⟨f, r, c, rfl⟩ := exec_command_cases hi hn h
    · rw [State.driveInactive_eq]; exact ⟨⟨rfl, rfl⟩, _, rfl⟩
    · exact .of_eq ⟨rfl, rfl⟩ rfl
    · exact .of_eq ⟨rfl, rfl⟩ rfl

theorem exec_appends {i : Instr} {s t : State} (h : exec i s = .next t) : Appends s t := by
  cases i
  case endSeq =>
    cases hp : s.phase <;> simp only [exec, execEndSeq, hp] at h <;> cases h <;> exact .of_eq ⟨rfl, rfl⟩ rfl
  case cmd b => exact s.sendEntry_appends h
  case data b => exact s.sendEntry_appends h
  case resetPulse =>
    simp only [exec, execResetPulse] at h
    split at h <;> cases h
    rw [State.pulseReset_eq]
    exact ⟨⟨rfl, rfl⟩, _, rfl⟩
  case setRstLevel a => cases h; exact ⟨⟨rfl, rfl⟩, _, rfl⟩
  case sendBuffer =>
    cases hp : s.phase <;> simp only [exec, execSendBuffer, hp] at h
    case dispBufOpen => cases h; rw [State.openBuffer_eq]; exact ⟨⟨rfl, rfl⟩, _, rfl⟩
    case dispBuf => split at h <;> cases h; exact s.streamByte_appends
    case dispBufClose => cases h; exact s.closeBuffer_appends
    all_goals cases h
  case lutBuild =>
    simp only [exec, execLutBuild] at h
    split at h <;> cases h
    exact .of_eq ⟨rfl, rfl⟩ rfl
  case fbFill c => cases h; exact .of_eq ⟨rfl, rfl⟩ rfl
  case fbSetbit =>
    simp only [exec, execFbSetbit] at h
    split at h
    · cases h
    · cases h
    · split at h <;> cases h
      obtain ⟨v, rfl⟩ := State.setBit_ok ‹_›
      exact .of_eq ⟨rfl, rfl⟩ rfl
  all_goals exact exec_command_appends rfl h

theorem step_sequencer_appends {s t : State} (ht : s.turn = .sequencer) (h : step s = .next t) :
    Appends s.turnTaken t := by
  obtain ⟨-, rfl⟩ | ⟨c, i, v, -, -, hv, rfl⟩ := step_sequencer_next ht h
  · exact .of_eq ⟨rfl, rfl⟩ rfl
  · have hexec : Appends { s.turnTaken with uop := none } v := exec_appends hv
    split <;> exact hexec

theorem HostMove.cfg_trace {s t : State} (h : HostMove s t) : t.cfg = s.cfg ∧ t.trace = s.trace := by
  cases h with
  | quiet => exact ⟨rfl, rfl⟩
  | command w => unfold State.writeCmd State.acceptCmd; split_ifs <;> exact ⟨rfl, rfl⟩
  | status v => unfold State.writeStatus; split <;> exact ⟨rfl, rfl⟩

/-- Every step takes its turn off the schedule. -/
theorem step_turns {s t : State} (h : step s = .next t) : t.turns = s.turns.tail := by
  cases ht : s.turn with
  | blockReset => rw [step_blockReset ht h]; rfl
  | host => cases HostMove.of_step ht h <;> rfl
  | sequencer => exact (step_sequencer_appends ht h).1.2

/-- Settles O55: the host writes neither, and every instruction of the sequencer appends (`exec_appends`). -/
theorem traceOnlyGrows : Obligations.TraceOnlyGrows := by
  intro s t h
  cases ht : s.turn with
  | blockReset => rw [step_blockReset ht h]; exact ⟨rfl, fun _ => rfl, nofun, nofun⟩
  | host =>
    obtain ⟨hc, htr⟩ := (HostMove.of_step ht h).cfg_trace
    exact ⟨hc, nofun, fun _ => htr, nofun⟩
  | sequencer =>
    obtain ⟨⟨hc, -⟩, hes⟩ := step_sequencer_appends ht h
    exact ⟨hc, nofun, nofun, fun _ => hes⟩

/-! ### Where a command ends -/

/-- A command's end (R272). -/
def State.Ended (t : State) : Prop := t.busy = false ∧ t.phase = .idle ∧ t.idx = 0

theorem State.finish_ended (s : State) (e : ErrCode) : (s.finish e).Ended := ⟨rfl, rfl, rfl⟩

/-- The command goes on from `s` to `t`, or ends there. -/
def RunsOrEnds (s t : State) : Prop := (t.busy = s.busy ∧ t.lastErr = s.lastErr) ∨ t.Ended

theorem SequencerMove.runsOrEnds {s t : State} (h : SequencerMove s t) : RunsOrEnds s t := by
  cases h with
  | command _ hop hexec =>
    have hn : decodeHost s.latch ≠ .nop := fun hd => hop (decodeHost_eq_nop.mp hd)
    obtain ⟨-, -, rfl⟩ | ⟨-, -, rfl⟩ | ⟨f, r, c, rfl⟩ := exec_command_cases (decodeHost_wellFormedFor _) hn hexec
    · rw [State.driveInactive_eq]; exact .inl ⟨rfl, rfl⟩
    · exact .inl ⟨rfl, rfl⟩
    · exact .inr (State.finish_ended _ _)
  | pulsed => rw [State.pulseReset_eq]; exact .inl ⟨rfl, rfl⟩
  | sent dc b =>
    obtain ⟨n, a, d, tr, hr⟩ := s.turnTaken.sendByte_state dc b
    unfold State.afterEntry
    rw [hr]
    split
    · exact .inl ⟨rfl, rfl⟩
    · split <;> exact .inr (State.finish_ended _ _)
  | initSeqEnded => exact .inl ⟨rfl, rfl⟩
  | frameStarted => exact .inl ⟨rfl, rfl⟩
  | frameCommitted => exact .inr (State.finish_ended _ _)
  | built => exact .inr (State.finish_ended _ _)
  | notBuilt => exact .inr (State.finish_ended _ _)
  | opened => rw [State.openBuffer_eq]; exact .inl ⟨rfl, rfl⟩
  | streamed =>
    cases ha : s.turnTaken.nextAnswer with
    | ready => rw [State.streamByte_ready ha]; exact .inl ⟨rfl, rfl⟩
    | timeout => rw [State.streamByte_timeout ha]; exact .inr (State.finish_ended _ _)
  | closed =>
    cases ha : s.turnTaken.nextAnswer with
    | ready => rw [State.closeBuffer_ready ha]; exact .inl ⟨rfl, rfl⟩
    | timeout => rw [State.closeBuffer_timeout ha]; exact .inr (State.finish_ended _ _)

theorem HostMove.lastErr {s t : State} (h : HostMove s t) : t.lastErr = s.lastErr := by
  cases h with
  | quiet => rfl
  | command w => unfold State.writeCmd State.acceptCmd; split_ifs <;> rfl
  | status v => unfold State.writeStatus; split <;> rfl

/-- The host starts a command by a write of `CMD`, and ends none (R220). -/
theorem HostMove.busy_cases {s t : State} (h : HostMove s t) :
    t.busy = s.busy ∨
      (s.busy = false ∧ t.busy = true ∧ ∃ w, s.hostWrites 0x0#22 w ∧ t.latch = w ∧ t.phase = .exec) := by
  cases h with
  | quiet => exact .inl rfl
  | command w hw =>
    cases hb : s.busy with
    | true => rw [State.writeCmd_of_busy w hb]; exact .inl hb
    | false =>
      rw [State.writeCmd_of_idle w hb]
      split
      · exact .inl hb
      · exact .inr ⟨rfl, rfl, w, hw, rfl, rfl⟩
  | status v => unfold State.writeStatus; split <;> exact .inl rfl

theorem BlockInv.busy_of_step {s t : State} (hi : BlockInv s) (ht : s.turn = .sequencer) (h : step s = .next t) :
    s.busy = true := by
  refine hi.busy.mpr fun hp => ?_
  rw [step_sequencer_stuck hi.config ht hi.noUop hp] at h
  cases h

/-- Settles O51: the sequencer's moves go on or end the command (`SequencerMove.runsOrEnds`), the host's start one at
most (`HostMove.busy_cases`). -/
theorem lastErrWrittenOnlyAtCommandEnd : Obligations.LastErrWrittenOnlyAtCommandEnd := by
  intro s t hi h hturn
  cases ht : s.turn with
  | blockReset => exact absurd ht hturn
  | host =>
    have hm := HostMove.of_step ht h
    refine ⟨fun hne => absurd hm.lastErr hne, fun hb hb' => ?_, fun hb hb' => ?_⟩ <;>
      obtain heq | ⟨hidle, -, hw⟩ := hm.busy_cases
    · rw [heq, hb] at hb'; cases hb'
    · rw [hb] at hidle; cases hidle
    · rw [heq, hb] at hb'; cases hb'
    · exact hw
  | sequencer =>
    have hbusy := hi.busy_of_step ht h
    obtain ⟨heq, herr⟩ | ⟨hend, hp, hidx⟩ := (SequencerMove.of_step hi ht h).runsOrEnds
    · refine ⟨fun hne => absurd herr hne, fun _ hb' => ?_, fun hb _ => ?_⟩
      · rw [heq, hbusy] at hb'; cases hb'
      · rw [hbusy] at hb; cases hb
    · refine ⟨fun _ => ⟨rfl, hbusy, hend, hp⟩, fun _ _ => ⟨rfl, hp, hidx⟩, fun _ hb' => ?_⟩
      rw [hend] at hb'; cases hb'

/-! ### What writes framebuffer, `RESULT` and tables -/

/-- Everything that a framebuffer byte, `RESULT` and the tables read as. -/
def State.data (s : State) : Memory × Nat × CmdWord × List LutIndex × List Byte × Bool :=
  (s.fb, s.epoch, s.result, s.lutIndex, s.lutMask, s.lutValid)

/-- What a step without block reset writes of framebuffer, `RESULT` and tables: at most one of the three. -/
inductive DataRow (s t : State) : Prop
  | kept (h : t.data = s.data)
  | painted (hc : s.ctrl = .ready) (he : s.executes 0x2#4 ∨ s.executes 0x3#4)
      (h : t.data = ({ s with fb := t.fb } : State).data)
  | translated (hc : s.ctrl = .ready) (he : s.executes 0x5#4)
      (h : t.data = ({ s with result := t.result } : State).data)
  | built (ht : s.turn = .sequencer) (hp : s.phase = .initBuild) (hs : s.cfg.strategy = .lut)
      (h : t.data = s.buildLut.data)

theorem DataRow.of_command {s t : State} (hi : BlockInv s) (ht : s.turn = .sequencer) (hp : s.phase = .exec)
    (hop : opField s.latch ≠ 0#4) (h : exec (decodeHost s.latch) s.turnTaken = .next t) : DataRow s t := by
  have hn : decodeHost s.latch ≠ .nop := fun hd => hop (decodeHost_eq_nop.mp hd)
  obtain ⟨u, hu, hm⟩ := hi.turnTaken.exec_command (decodeHost_wellFormedFor _) hn
  obtain rfl : u = t := Host.Outcome.next.inj (hu.symm.trans h)
  have hrow := opField_eq_row s.latch
  generalize decodeHost s.latch = i at hm hrow
  cases hm with
  | initStarted => rw [State.driveInactive_eq]; exact .kept rfl
  | frameStarted => exact .kept rfl
  | cleared hc => exact .painted hc (.inl ⟨ht, hp, hrow.trans (by decide : opField 0x20000000#32 = _)⟩) rfl
  | painted hc => exact .painted hc (.inr ⟨ht, hp, hrow.trans (by decide : opField 0x30000000#32 = _)⟩) rfl
  | translated hc => exact .translated hc ⟨ht, hp, hrow.trans (by decide : opField 0x50000000#32 = _)⟩ rfl
  | notTranslated hc => exact .translated hc ⟨ht, hp, hrow.trans (by decide : opField 0x50000000#32 = _)⟩ rfl
  | ended => exact .kept rfl

theorem SequencerMove.dataRow {s t : State} (hi : BlockInv s) (ht : s.turn = .sequencer) (h : SequencerMove s t) :
    DataRow s t := by
  cases h with
  | command hp hop hexec => exact .of_command hi ht hp hop hexec
  | pulsed => rw [State.pulseReset_eq]; exact .kept rfl
  | sent dc b =>
    obtain ⟨n, a, d, tr, hr⟩ := s.turnTaken.sendByte_state dc b
    unfold State.afterEntry
    rw [hr]
    split
    · exact .kept rfl
    · split <;> exact .kept rfl
  | initSeqEnded => exact .kept rfl
  | frameStarted => exact .kept rfl
  | frameCommitted => exact .kept rfl
  | built hp hs => exact .built ht hp hs rfl
  | notBuilt => exact .kept rfl
  | opened => rw [State.openBuffer_eq]; exact .kept rfl
  | streamed =>
    cases ha : s.turnTaken.nextAnswer with
    | ready => rw [State.streamByte_ready ha]; exact .kept rfl
    | timeout =>
      rw [State.streamByte_timeout ha, State.abandonFrame_eq _ ha]; exact .kept rfl
  | closed =>
    cases ha : s.turnTaken.nextAnswer with
    | ready => rw [State.closeBuffer_ready ha]; exact .kept rfl
    | timeout =>
      rw [State.closeBuffer_timeout ha, State.abandonFrame_eq _ ha]; exact .kept rfl

theorem HostMove.dataRow {s t : State} (h : HostMove s t) : DataRow s t := by
  cases h with
  | quiet => exact .kept rfl
  | command w =>
    unfold State.writeCmd State.acceptCmd
    split_ifs <;> exact .kept rfl
  | status v => unfold State.writeStatus; split <;> exact .kept rfl

/-- Each row is the sequencer's but `kept`. -/
theorem DataRow.of_step {s t : State} (hi : BlockInv s) (h : step s = .next t) (ht : s.turn ≠ .blockReset) :
    DataRow s t := by
  cases hturn : s.turn with
  | host => exact (HostMove.of_step hturn h).dataRow
  | sequencer => exact (SequencerMove.of_step hi hturn h).dataRow hi hturn
  | blockReset => exact absurd hturn ht

theorem DataRow.result_cases {s t : State} (h : DataRow s t) (hne : t.result ≠ s.result) :
    s.ctrl = .ready ∧ s.executes 0x5#4 := by
  cases h with
  | translated hc he => exact ⟨hc, he⟩
  -- The other rows keep `RESULT`.
  | _ => simp_all [State.data]

theorem DataRow.fbByte_cases {s t : State} (h : DataRow s t) {a : Nat} (hne : t.fbByte a ≠ s.fbByte a) :
    s.ctrl = .ready ∧ (s.executes 0x2#4 ∨ s.executes 0x3#4) := by
  cases h with
  | painted hc he => exact ⟨hc, he⟩
  -- The other rows keep `fb` and the epoch.
  | _ => simp_all [State.data, State.fbByte]

theorem DataRow.tables_cases {s t : State} (h : DataRow s t)
    (hne : t.lutIndex ≠ s.lutIndex ∨ t.lutMask ≠ s.lutMask ∨ t.lutValid ≠ s.lutValid) :
    s.turn = .sequencer ∧ s.phase = .initBuild ∧ s.cfg.strategy = .lut := by
  cases h with
  | built ht hp hs => exact ⟨ht, hp, hs⟩
  -- The other rows keep the tables.
  | _ => simp_all [State.data]

/-- Settles O52: the row `translated` of `DataRow`; block reset gives 0. -/
theorem resultWrittenOnlyByXlate : Obligations.ResultWrittenOnlyByXlate := by
  intro s t hi h hne
  by_cases ht : s.turn = .blockReset
  · exact .inl ⟨ht, by rw [step_blockReset ht h]; rfl⟩
  · exact .inr ((DataRow.of_step hi h ht).result_cases hne)

/-- Settles O53: the row `painted` of `DataRow`. -/
theorem framebufferWrittenOnlyByPixelCommands : Obligations.FramebufferWrittenOnlyByPixelCommands := by
  rintro s t hi h ht ⟨a, hne⟩
  exact (DataRow.of_step hi h ht).fbByte_cases hne

/-- Settles O54: the row `built` of `DataRow`. -/
theorem tablesWrittenOnlyByInitBuild : Obligations.TablesWrittenOnlyByInitBuild :=
  fun _ _ hi h ht => (DataRow.of_step hi h ht).tables_cases

end Sys2Proof.Machine

namespace Sys2Proof.Machine

/-! ### Runs of several steps -/

/-- `n` steps of the machine (the host's `Core.run`, at the model's own types). -/
def runSteps (n : Nat) (s : State) : Host.Outcome State Fault Refusal := Host.Core.run Sys2Proof.core n s

/-- An outcome, carried on by `f` where it is a next state. -/
def andThen (o : Host.Outcome State Fault Refusal) (f : State → Host.Outcome State Fault Refusal) :
    Host.Outcome State Fault Refusal :=
  match o with
  | .next t => f t
  | .fault r => .fault r
  | .refused r => .refused r

theorem runSteps_zero (s : State) : runSteps 0 s = .next s := rfl

theorem runSteps_succ (n : Nat) (s : State) : runSteps (n + 1) s = andThen (step s) (runSteps n) := by
  have hcore : Sys2Proof.core.step s = step s := rfl
  refine (Host.Core.run.eq_def Sys2Proof.core (n + 1) s).trans ?_
  dsimp only
  rw [hcore]
  cases step s <;> rfl

theorem runSteps_one (s : State) : runSteps 1 s = step s := by
  rw [runSteps_succ]
  cases step s <;> rfl

theorem runSteps_add (m n : Nat) : ∀ s : State, runSteps (m + n) s = andThen (runSteps m s) (runSteps n) := by
  induction m with
  | zero => intro s; rw [Nat.zero_add]; rfl
  | succ m ih =>
    intro s
    rw [Nat.succ_add, runSteps_succ, runSteps_succ]
    cases step s with
    | next t => exact ih t
    | fault r => rfl
    | refused r => rfl

theorem runSteps_add_of_next {m : Nat} {s t : State} (h : runSteps m s = .next t) (n : Nat) :
    runSteps (m + n) s = runSteps n t := by
  rw [runSteps_add, h, andThen]

theorem stepsToMoves_zero (ts : List Turn) : stepsToMoves ts 0 = 0 := by
  cases ts <;> rfl

/-- The sequencer's first `m` moves, then `k` more. -/
theorem stepsToMoves_add (k : Nat) (ts : List Turn) : ∀ m,
    stepsToMoves ts (m + k) = stepsToMoves ts m + stepsToMoves (ts.drop (stepsToMoves ts m)) k := by
  induction ts with
  | nil => intro m; simp [stepsToMoves]
  | cons a ts ih =>
    intro m
    cases m with
    | zero => rw [stepsToMoves_zero, Nat.zero_add, Nat.zero_add, List.drop_zero]
    | succ m =>
      have hcomm : m + 1 + k = m + k + 1 := by omega
      rw [hcomm]
      cases a with
      | sequencer => rw [stepsToMoves, stepsToMoves, List.drop_succ_cons, ih m]; omega
      | host => rw [stepsToMoves, stepsToMoves, List.drop_succ_cons, ← hcomm, ih (m + 1)]; omega
      | blockReset => rw [stepsToMoves, stepsToMoves, List.drop_succ_cons, ← hcomm, ih (m + 1)]; omega

/-- A schedule that runs through `m + n` steps does so for the first `m`, and from where these lead for `n` more. -/
theorem RunsThrough.left {s : State} {m n : Nat} (h : RunsThrough s (m + n)) : RunsThrough s m := by
  obtain ⟨hreset, hhost⟩ := h
  rw [List.take_add, List.mem_append] at hreset hhost
  refine ⟨fun hm => hreset (.inl hm), fun hm hstuck => hhost (.inl hm) ?_⟩
  have hrun : runSteps m s = .fault .hostStuck := hstuck
  show runSteps (m + n) s = _
  rw [runSteps_add, hrun]
  rfl

theorem RunsThrough.right {s t : State} {m n : Nat} (h : RunsThrough s (m + n)) (hrun : runSteps m s = .next t)
    (ht : t.turns = s.turns.drop m) : RunsThrough t n := by
  obtain ⟨hreset, hhost⟩ := h
  rw [List.take_add, List.mem_append, ← ht] at hreset hhost
  refine ⟨fun hm => hreset (.inr hm), fun hm hstuck => hhost (.inr hm) ?_⟩
  exact (runSteps_add_of_next hrun n).trans hstuck

/-! ### Runs by moves of the sequencer (R247) -/

/-- Under every schedule that runs through, `m` moves of the sequencer lead from `P` to `Q`. -/
def Leads (P : State → Prop) (m : Nat) (Q : State → Prop) : Prop :=
  ∀ s, P s → RunsThrough s (stepsToMoves s.turns m) →
    ∃ t, runSteps (stepsToMoves s.turns m) s = .next t ∧ t.turns = s.turns.drop (stepsToMoves s.turns m) ∧ Q t

theorem Leads.trans {P Q R : State → Prop} {m n : Nat} (h : Leads P m Q) (h' : Leads Q n R) : Leads P (m + n) R := by
  intro s hs hthrough
  rw [stepsToMoves_add] at hthrough ⊢
  obtain ⟨t, hrun, hturns, ht⟩ := h s hs hthrough.left
  rw [← hturns] at hthrough ⊢
  obtain ⟨u, hrun', hturns', hu⟩ := h' t ht (hthrough.right hrun hturns)
  refine ⟨u, (runSteps_add_of_next hrun _).trans hrun', ?_, hu⟩
  rw [hturns', hturns, List.drop_drop]

theorem State.turn_sequencer_of_no_turns {s : State} (h : s.turns = []) (hp : s.phase ≠ .idle) :
    s.turn = .sequencer := by
  simp [State.turn, State.sequencerReady, h, hp]

theorem State.turn_of_cons {s : State} {a : Turn} {ts : List Turn} (h : s.turns = a :: ts) : s.turn = a := by
  simp [State.turn, h]

/-- One move: the host's steps before it keep `P`, and the sequencer's own step leads to `Q`. -/
theorem Leads.one {P Q : State → Prop} (hinv : ∀ s, P s → BlockInv s ∧ s.phase ≠ .idle)
    (hhost : ∀ s t, P s → s.turn = .host → step s = .next t → P t)
    (hseq : ∀ s, P s → s.turn = .sequencer → ∃ t, step s = .next t ∧ Q t) : Leads P 1 Q := by
  have hmove {s : State} (hs : P s) (ht : s.turn = .sequencer) :
      ∃ t, runSteps 1 s = .next t ∧ t.turns = s.turns.drop 1 ∧ Q t := by
    obtain ⟨t, hstep, hq⟩ := hseq s hs ht
    exact ⟨t, (runSteps_one s).trans hstep, (step_turns hstep).trans List.drop_one.symm, hq⟩
  intro s
  generalize hts : s.turns = ts
  induction ts generalizing s with
  | nil =>
    intro hs _
    rw [show stepsToMoves [] 1 = 1 from rfl, ← hts]
    exact hmove hs (State.turn_sequencer_of_no_turns hts (hinv s hs).2)
  | cons a ts ih =>
    intro hs hthrough
    have hturn := State.turn_of_cons hts
    cases a with
    | sequencer =>
      rw [stepsToMoves, stepsToMoves_zero, ← hts]
      exact hmove hs hturn
    | blockReset =>
      refine absurd ?_ hthrough.1
      rw [hts, stepsToMoves]
      exact List.mem_cons_self
    | host =>
      rw [stepsToMoves, Nat.add_comm] at hthrough ⊢
      obtain ⟨t, hstep⟩ | ⟨-, hne, -⟩ | ⟨hstuck, -⟩ := noFaultFromInv s (hinv s hs).1
      · have hrun := (runSteps_one s).trans hstep
        have htail : t.turns = ts := by rw [step_turns hstep, hts]; rfl
        have hdrop : t.turns = s.turns.drop 1 := by rw [htail, hts]; rfl
        obtain ⟨u, hrun', hturns, hq⟩ := ih t htail (hhost s t hs hturn hstep) (hthrough.right hrun hdrop)
        refine ⟨u, (runSteps_add_of_next hrun _).trans hrun', ?_, hq⟩
        rw [hturns, Nat.add_comm 1, List.drop_succ_cons]
      · rw [hturn] at hne; cases hne
      · have hfault : runSteps (1 + stepsToMoves ts 1) s = .fault .hostStuck := by
          rw [runSteps_add, runSteps_one, hstuck]
          rfl
        refine absurd hfault (hthrough.2 ?_)
        rw [hts, Nat.add_comm]
        exact List.mem_cons_self

end Sys2Proof.Machine

namespace Sys2Proof.Machine

/-! ### Waits to come (R8, R240) -/

section
variable {s t : State} {n : Nat}

theorem AllWaitsReady.answer (h : AllWaitsReady s n) {k : Nat} (hk : k < n) : s.answer k = .ready := by
  obtain hlisted | ⟨-, hall⟩ := h
  · simp [State.answer, hlisted k hk]
  · exact hall k hk

/-- After `j` of the waits the rest are still to come. -/
theorem AllWaitsReady.rest {j : Nat} (h : AllWaitsReady s (j + n)) (ha : t.busAnswers = s.busAnswers.drop j)
    (hd : t.draws = s.draws + j) (ht : t.turns = s.turns.tail) : AllWaitsReady t n := by
  have hlist (k : Nat) : t.busAnswers[k]? = s.busAnswers[j + k]? := by rw [ha, List.getElem?_drop]
  refine h.imp (fun h k hk => ?_) fun ⟨hturns, h⟩ => ⟨by rw [ht, hturns]; rfl, fun k hk => ?_⟩
  · rw [hlist]; exact h _ (by omega)
  · have hk := h (j + k) (by omega)
    rwa [State.answer, ← hlist, ← Nat.add_assoc, ← hd] at hk

/-- A host's step draws nothing from a listed answer. -/
theorem AllWaitsReady.listed_of_host (h : AllWaitsReady s n) (ht : s.turn = .host) (hp : s.phase ≠ .idle) :
    ∀ k, k < n → s.busAnswers[k]? = some .ready := by
  obtain h | ⟨hturns, -⟩ := h
  · exact h
  · rw [State.turn_sequencer_of_no_turns hturns hp] at ht; cases ht

end

/-! ### A command on its way -/

/-- The table that phase `p` runs in the configuration of `s` (R140). -/
def State.tableAt (s : State) (p : Phase) : List Entry := ({ s with phase := p } : State).phaseTable

/-- The command latched in `s` has come to `seq.pc = (p, i)`: it has recorded the events `ev`, and its next `w` waits
draw `READY`. -/
structure Stage (s : State) (p : Phase) (i w : Nat) (ev : List Event) (u : State) : Prop where
  inv : BlockInv u
  cfg : u.cfg = s.cfg
  latch : u.latch = s.latch
  memory : u.fb = s.fb ∧ u.epoch = s.epoch
  phase : u.phase = p
  idx : u.idx.toNat = i
  trace : u.trace = s.trace ++ ev
  waits : AllWaitsReady u w

section
variable {s u t : State} {p : Phase} {i w : Nat} {ev : List Event}

theorem Stage.phaseTable (h : Stage s p i w ev u) : u.phaseTable = s.tableAt p := by
  unfold State.tableAt State.phaseTable
  rw [h.phase, h.cfg]

theorem Stage.fbByte (h : Stage s p i w ev u) (a : Nat) : u.fbByte a = s.fbByte a := by
  rw [State.fbByte, State.fbByte, h.memory.1, h.memory.2]

theorem Stage.not_busy (h : Stage s .idle i w ev u) : u.busy = false := by
  simpa [BusyMatchesPhase, h.phase] using h.inv.busy

/-- The host's steps leave a stage as it is (R68, R276). -/
theorem Stage.host (h : Stage s p i w ev u) (hp : p ≠ .idle) (ht : u.turn = .host) (hstep : step u = .next t) :
    Stage s p i w ev t ∧ t.ctrl = u.ctrl := by
  have hinv := stepKeepsInv u t h.inv hstep
  have hphase : u.phase ≠ .idle := h.phase ▸ hp
  have hlisted := h.waits.listed_of_host ht hphase
  obtain ⟨c, d, ho, rfl⟩ := hostCannotDisturbRunningCommand u t hstep ht (h.inv.busy.mpr hphase)
  exact ⟨⟨hinv, h.cfg, h.latch, h.memory, h.phase, h.idx, h.trace, .inl hlisted⟩, rfl⟩

/-- A step of the sequencer that records `es` and takes `j` waits. -/
theorem Stage.next {p' : Phase} {i' j : Nat} (h : Stage s p i (j + w) ev u) (hstep : step u = .next t)
    (hkept : t.cfg = u.cfg ∧ t.latch = u.latch ∧ t.fb = u.fb ∧ t.epoch = u.epoch) (hp : t.phase = p')
    (hi : t.idx.toNat = i') {es : List Event} (htr : t.trace = u.trace ++ es)
    (ha : t.busAnswers = u.busAnswers.drop j ∧ t.draws = u.draws + j) : Stage s p' i' w (ev ++ es) t := by
  obtain ⟨hc, hl, hf, he⟩ := hkept
  exact ⟨stepKeepsInv u t h.inv hstep, hc.trans h.cfg, hl.trans h.latch,
    ⟨hf.trans h.memory.1, he.trans h.memory.2⟩, hp, hi, by rw [htr, h.trace, List.append_assoc],
    h.waits.rest ha.1 ha.2 (step_turns hstep)⟩

/-- A step of the sequencer that takes no wait. -/
theorem Stage.next_noWait {p' : Phase} {i' : Nat} (h : Stage s p i w ev u) (hstep : step u = .next t)
    (hkept : t.cfg = u.cfg ∧ t.latch = u.latch ∧ t.fb = u.fb ∧ t.epoch = u.epoch) (hp : t.phase = p')
    (hi : t.idx.toNat = i') {es : List Event} (htr : t.trace = u.trace ++ es)
    (ha : t.busAnswers = u.busAnswers ∧ t.draws = u.draws) : Stage s p' i' w (ev ++ es) t :=
  Stage.next (j := 0) (by rwa [Nat.zero_add]) hstep hkept hp hi htr ha

/-- One move of the sequencer from a stage. -/
theorem Stage.leads {Q : State → Prop} (hp : p ≠ .idle)
    (hseq : ∀ u, Stage s p i w ev u → u.turn = .sequencer → ∃ t, step u = .next t ∧ Q t) :
    Leads (Stage s p i w ev) 1 Q :=
  .one (fun _ h => ⟨h.inv, h.phase ▸ hp⟩) (fun _ _ h ht hstep => (h.host hp ht hstep).1) hseq

end

/-! ### A protocol table (R140, R240) -/

section
variable {s : State} {p : Phase} {i w : Nat} {ev : List Event}

theorem State.sendByte_afterEntry_ready {s : State} (dc : Level) (b : Byte) (h₀ : s.answer 0 = .ready)
    (h₁ : s.answer 1 = .ready) : State.afterEntry (s.sendByte dc b) = { s with
      lineDc := dc, lineCs := csInactive s.cfg, txnOpen := false, idx := s.idx + 1
      tcount := min s.cfg.tComplete (Config.readyTick (s.draws + 1))
      busAnswers := s.busAnswers.drop 2, draws := s.draws + 2
      trace := s.trace ++ sentEvents s.cfg dc b } := by
  have htwo : s.busAnswers.tail.tail = s.busAnswers.drop 2 := by
    rw [← List.drop_one (l := s.busAnswers), List.tail_drop]
  rw [s.sendByte_ready dc b h₀ h₁, htwo]
  rfl

/-- An entry that sends leads to the next one. -/
theorem Stage.leads_entry (hp : p.runsTable = true) {e : Entry} (he : (s.tableAt p)[i]? = some e)
    (hs : entrySends e = true) :
    Leads (Stage s p i (2 + w) ev) 1 (Stage s p (i + 1) w (ev ++ entryEvents s.cfg e)) := by
  refine Stage.leads (by rintro rfl; cases hp) fun u h ht => ?_
  have hrun : u.phase.runsTable = true := h.phase ▸ hp
  have hentry : u.phaseTable[u.idx.toNat]? = some e := by rw [h.phaseTable, h.idx, he]
  obtain ⟨dc, b, -, hev, hstep⟩ := h.inv.step_transaction ht hrun hentry hs
  have hlt := (idxInRange_iff_of_runsTable hrun).mp h.inv.idx
  have hlen := (tableWf_length (h.inv.phaseTable_wf hrun)).2
  rw [State.sendByte_afterEntry_ready (s := u.turnTaken) dc b (h.waits.answer (by omega)) (h.waits.answer (by omega))]
    at hstep
  have hidx : (u.idx + 1).toNat = i + 1 := by rw [SeqIdx.succ_toNat (by omega), h.idx]
  exact ⟨_, hstep, h.next hstep ⟨rfl, rfl, rfl, rfl⟩ h.phase hidx (by rw [← h.cfg, hev]; rfl) ⟨rfl, rfl⟩⟩

/-- A table from entry `i` on, given what its `END` leads to. -/
theorem Stage.leads_table_from (hp : p.runsTable = true) (hwf : tableWf (s.tableAt p) = true)
    {Q : List Event → State → Prop}
    (hend : ∀ i ev, (s.tableAt p)[i]? = some 0x0000#16 → Leads (Stage s p i w ev) 1 (Q ev)) (d : Nat) :
    ∀ i ev, i + (d + 1) = (s.tableAt p).length →
      Leads (Stage s p i (2 * d + w) ev) (d + 1) (Q (ev ++ tableEvents s.cfg ((s.tableAt p).drop i))) := by
  induction d with
  | zero =>
    intro i ev hi
    obtain ⟨-, he⟩ | ⟨hlt, -⟩ := tableWf_entry hwf (show i < _ by omega)
    · have hdrop : (s.tableAt p).drop i = [0x0000#16] := by
        obtain ⟨hlt, heq⟩ := List.getElem?_eq_some_iff.mp he
        rw [List.drop_eq_getElem_cons hlt, heq, List.drop_of_length_le (by omega)]
      have hnone : tableEvents s.cfg [0x0000#16] = [] := rfl
      rw [hdrop, hnone, List.append_nil, Nat.mul_zero, Nat.zero_add]
      exact hend i ev he
    · omega
  | succ d ih =>
    intro i ev hi
    obtain ⟨hlast, -⟩ | ⟨-, e, he, hs⟩ := tableWf_entry hwf (show i < _ by omega)
    · omega
    · obtain ⟨hlt, heq⟩ := List.getElem?_eq_some_iff.mp he
      have hwaits : 2 * (d + 1) + w = 2 + (2 * d + w) := by omega
      have hmoves : d + 1 + 1 = 1 + (d + 1) := by omega
      rw [List.drop_eq_getElem_cons hlt, heq, tableEvents, List.flatMap_cons, ← List.append_assoc, hwaits, hmoves]
      exact (Stage.leads_entry hp he hs).trans (ih (i + 1) _ (by omega))

/-- A whole table. -/
theorem Stage.leads_table (hp : p.runsTable = true) (hwf : tableWf (s.tableAt p) = true)
    {Q : List Event → State → Prop}
    (hend : ∀ i ev, (s.tableAt p)[i]? = some 0x0000#16 → Leads (Stage s p i w ev) 1 (Q ev)) :
    Leads (Stage s p 0 (2 * ((s.tableAt p).length - 1) + w) ev) (s.tableAt p).length
      (Q (ev ++ tableEvents s.cfg (s.tableAt p))) := by
  obtain ⟨hpos, -⟩ := tableWf_length hwf
  have h := Stage.leads_table_from hp hwf hend ((s.tableAt p).length - 1) 0 ev (by omega)
  rwa [Nat.sub_add_cancel hpos, List.drop_zero] at h

/-- `END` of a table that another phase follows (R141). -/
theorem Stage.leads_end {q : Phase} (hp : p = .initSeq ∧ q = .initBuild ∨ p = .dispStart ∧ q = .dispBufOpen)
    (he : (s.tableAt p)[i]? = some 0x0000#16) : Leads (Stage s p i w ev) 1 (Stage s q 0 w ev) := by
  have hrun : p.runsTable = true ∧ p ≠ .idle := by obtain ⟨rfl, -⟩ | ⟨rfl, -⟩ := hp <;> decide
  refine Stage.leads hrun.2 fun u h ht => ?_
  have hentry : u.phaseTable[u.idx.toNat]? = some 0x0000#16 := by rw [h.phaseTable, h.idx, he]
  obtain ⟨hinit, hstart, -⟩ := h.inv.step_tableEnd ht (h.phase ▸ hrun.1) hentry
  have hstep : step u = .next (u.turnTaken.goto q 0) := by
    obtain ⟨rfl, rfl⟩ | ⟨rfl, rfl⟩ := hp
    · exact hinit h.phase
    · exact hstart h.phase
  refine ⟨_, hstep, ?_⟩
  rw [← List.append_nil ev]
  exact h.next_noWait hstep ⟨rfl, rfl, rfl, rfl⟩ rfl rfl (List.append_nil _).symm ⟨rfl, rfl⟩

/-! ### The phases of `INIT` (R224-R227) -/

/-- The command latched in `s`, before its `EXEC` step. -/
def Latched (s : State) (w : Nat) (u : State) : Prop := Stage s .exec 0 w [] u ∧ u.ctrl = s.ctrl

theorem Latched.leads {Q : State → Prop}
    (hseq : ∀ u, Stage s .exec 0 w [] u → u.ctrl = s.ctrl → u.turn = .sequencer → ∃ t, step u = .next t ∧ Q t) :
    Leads (Latched s w) 1 Q := by
  refine .one (fun _ h => ⟨h.1.inv, by simp [h.1.phase]⟩) (fun _ _ h ht hstep => ?_) fun u h ht => hseq u h.1 h.2 ht
  obtain ⟨hstage, hc⟩ := h.1.host (by decide) ht hstep
  exact ⟨hstage, hc.trans h.2⟩

/-- The events of `INIT`'s `EXEC` step (R224). -/
def initEvents (c : Config) : List Event :=
  [.line .cs (csInactive c), .line .dc (dcCommand c), .line .rst (rstLevel c false)]

/-- The events of the panel reset pulse (R130). -/
def pulseEvents (c : Config) : List Event :=
  [.line .rst (rstLevel c true), .delay c.tRstHold, .line .rst (rstLevel c false), .delay c.tRstRecover]

theorem Latched.leads_init (hop : opField s.latch = 0x1#4) (hc : s.ctrl = .uninit) :
    Leads (Latched s w) 1 (Stage s .initReset 0 w (initEvents s.cfg)) := by
  refine Latched.leads fun u h hctrl ht => ?_
  have hdec : decodeHost u.latch = .init := by
    rw [h.latch]
    exact Except.ok.inj (decode_host_init (by rw [← opField_toNat, hop]; rfl))
  have hstep := h.inv.step_exec ht h.phase
  rw [hdec, exec_init_uninit (s := u.turnTaken) (hctrl.trans hc), State.driveInactive_eq] at hstep
  exact ⟨_, hstep, h.next_noWait hstep ⟨rfl, rfl, rfl, rfl⟩ rfl rfl (by rw [← h.cfg]; rfl) ⟨rfl, rfl⟩⟩

theorem Stage.leads_pulse :
    Leads (Stage s .initReset 0 w ev) 1 (Stage s .initSeq 0 w (ev ++ pulseEvents s.cfg)) := by
  refine Stage.leads (by decide) fun u h ht => ?_
  have hstep := h.inv.step_initReset ht h.phase
  rw [State.pulseReset_eq] at hstep
  exact ⟨_, hstep, h.next_noWait hstep ⟨rfl, rfl, rfl, rfl⟩ rfl rfl (by rw [← h.cfg]; rfl) ⟨rfl, rfl⟩⟩

/-- The command latched in `s` has ended with `NONE`, in `READY`. -/
def Completed (s : State) (w : Nat) (ev : List Event) (u : State) : Prop :=
  Stage s .idle 0 w ev u ∧ u.ctrl = .ready ∧ u.lastErr = .none

theorem State.withTables_eq (s : State) :
    ∃ ix mk v, s.withTables = { s with lutIndex := ix, lutMask := mk, lutValid := v } := by
  unfold State.withTables
  split
  · exact ⟨_, _, _, rfl⟩
  · exact ⟨_, _, _, rfl⟩

theorem Stage.leads_build : Leads (Stage s .initBuild i w ev) 1 (Completed s w ev) := by
  refine Stage.leads (by decide) fun u h ht => ?_
  obtain ⟨ix, mk, v, htables⟩ := u.turnTaken.withTables_eq
  have hstep := h.inv.step_initBuild ht h.phase
  rw [htables] at hstep
  refine ⟨_, hstep, ?_, rfl, rfl⟩
  rw [← List.append_nil ev]
  exact h.next_noWait hstep ⟨rfl, rfl, rfl, rfl⟩ rfl rfl (List.append_nil _).symm ⟨rfl, rfl⟩

/-- The whole of `INIT`. -/
theorem Latched.leads_init_completed (hwf : s.cfg.wf = true) (hop : opField s.latch = 0x1#4) (hc : s.ctrl = .uninit) :
    Leads (Latched s (2 * (s.cfg.initSeq.length - 1))) (3 + s.cfg.initSeq.length)
      (Completed s 0 (initEvents s.cfg ++ pulseEvents s.cfg ++ tableEvents s.cfg s.cfg.initSeq)) := by
  have htable := Stage.leads_table (s := s) (p := .initSeq) (w := 0) (ev := initEvents s.cfg ++ pulseEvents s.cfg) rfl
    (Config.wf_tables hwf).1 fun i ev he => Stage.leads_end (.inl ⟨rfl, rfl⟩) he
  have hmoves : 3 + s.cfg.initSeq.length = 1 + (1 + (s.cfg.initSeq.length + 1)) := by omega
  rw [hmoves]
  exact (Latched.leads_init hop hc).trans (Stage.leads_pulse.trans (htable.trans Stage.leads_build))

/-! ### The phases of `DISPLAY` (R236-R238) -/

theorem Latched.leads_display (hop : opField s.latch = 0x4#4) (hc : s.ctrl = .ready) :
    Leads (Latched s w) 1 (Stage s .dispStart 0 w []) := by
  refine Latched.leads fun u h hctrl ht => ?_
  have hdec : decodeHost u.latch = .display := by
    rw [h.latch]
    exact Except.ok.inj (decode_host_display (by rw [← opField_toNat, hop]; rfl))
  have hstep := h.inv.step_exec ht h.phase
  rw [hdec, exec_display_ready (s := u.turnTaken) (hctrl.trans hc)] at hstep
  exact ⟨_, hstep, h.next_noWait hstep ⟨rfl, rfl, rfl, rfl⟩ rfl rfl (List.append_nil _).symm ⟨rfl, rfl⟩⟩

theorem Stage.leads_open : Leads (Stage s .dispBufOpen i w ev) 1
    (Stage s .dispBuf 0 w (ev ++ openEvents s.cfg (dcData s.cfg))) := by
  refine Stage.leads (by decide) fun u h ht => ?_
  have hstep := (h.inv.step_sendBuffer ht (.inl h.phase)).trans (exec_sendBuffer_open h.phase)
  rw [State.openBuffer_eq] at hstep
  exact ⟨_, hstep, h.next_noWait hstep ⟨rfl, rfl, rfl, rfl⟩ rfl rfl (by rw [← h.cfg]; rfl) ⟨rfl, rfl⟩⟩

/-- One byte of the framebuffer: then the next, or the transaction's end (R127). -/
theorem Stage.leads_byte : Leads (Stage s .dispBuf i (1 + w) ev) 1
    (Stage s (if i + 1 < fbLen s.cfg then .dispBuf else .dispBufClose) (if i + 1 < fbLen s.cfg then i + 1 else 0) w
      (ev ++ [.byte (s.fbByte i)])) := by
  refine Stage.leads (by decide) fun u h ht => ?_
  have hidx : u.idx.toNat < fbLen u.cfg := by simpa only [IdxInRange, h.phase] using h.inv.idx
  have hnext : (u.idx + 1).toNat = i + 1 := by
    rw [SeqIdx.succ_toNat (hidx.trans_le (fbLen_le h.inv.config)), h.idx]
  have hstep := (h.inv.step_sendBuffer ht (.inr (.inl h.phase))).trans (exec_sendBuffer_byte h.phase hidx)
  have hanswer : u.turnTaken.nextAnswer = .ready := u.turnTaken.answer_zero.symm.trans (h.waits.answer (by omega))
  have hbyte : u.turnTaken.fbByte u.turnTaken.idx.toNat = s.fbByte i :=
    (h.fbByte _).trans (congrArg s.fbByte h.idx)
  rw [State.streamByte_ready hanswer, hbyte] at hstep
  refine ⟨_, hstep, h.next hstep ⟨rfl, rfl, rfl, rfl⟩ ?phase ?idx rfl ⟨List.drop_one.symm, rfl⟩⟩
  case phase => simp [h.phase, h.idx, h.cfg]
  case idx => simp only [State.turnTaken_idx, State.turnTaken_cfg, h.idx, h.cfg]; split <;> [exact hnext; rfl]

/-- The bytes from `i` on, in ascending order (R127, R166). -/
theorem Stage.leads_bytes_from (d : Nat) : ∀ i ev, i + (d + 1) = fbLen s.cfg →
    Leads (Stage s .dispBuf i (d + 1 + w) ev) (d + 1)
      (Stage s .dispBufClose 0 w (ev ++ (List.range' i (d + 1)).map fun k => .byte (s.fbByte k))) := by
  induction d with
  | zero =>
    intro i ev hi
    have hlast : ¬ i + 1 < fbLen s.cfg := by omega
    have h := Stage.leads_byte (s := s) (i := i) (w := w) (ev := ev)
    rw [if_neg hlast, if_neg hlast] at h
    simpa using h
  | succ d ih =>
    intro i ev hi
    have hnext : i + 1 < fbLen s.cfg := by omega
    have h := Stage.leads_byte (s := s) (i := i) (w := d + 1 + w) (ev := ev)
    rw [if_pos hnext, if_pos hnext] at h
    have hwaits : d + 1 + 1 + w = 1 + (d + 1 + w) := by omega
    have hmoves : d + 1 + 1 = 1 + (d + 1) := by omega
    rw [List.range'_succ, List.map_cons, List.append_cons, hwaits, hmoves]
    exact h.trans (ih (i + 1) _ (by omega))

theorem Stage.leads_bytes (hwf : s.cfg.wf = true) : Leads (Stage s .dispBuf 0 (fbLen s.cfg + w) ev) (fbLen s.cfg)
    (Stage s .dispBufClose 0 w (ev ++ (List.range (fbLen s.cfg)).map fun k => .byte (s.fbByte k))) := by
  have hpos := fbLen_pos hwf
  have h := Stage.leads_bytes_from (s := s) (w := w) (fbLen s.cfg - 1) 0 ev (by omega)
  rwa [Nat.sub_add_cancel hpos, ← List.range_eq_range'] at h

theorem Stage.leads_close : Leads (Stage s .dispBufClose i (1 + w) ev) 1
    (Stage s .dispCommit 0 w (ev ++ [Event.done, Event.line .cs (csInactive s.cfg)])) := by
  refine Stage.leads (by decide) fun u h ht => ?_
  have hstep := (h.inv.step_sendBuffer ht (.inr (.inr h.phase))).trans (exec_sendBuffer_close h.phase)
  have hanswer : u.turnTaken.nextAnswer = .ready := u.turnTaken.answer_zero.symm.trans (h.waits.answer (by omega))
  rw [State.closeBuffer_ready hanswer] at hstep
  exact ⟨_, hstep,
    h.next hstep ⟨rfl, rfl, rfl, rfl⟩ rfl rfl (by rw [← h.cfg]; rfl) ⟨List.drop_one.symm, rfl⟩⟩

/-- A `DISPLAY` latched in `s` has ended with the frame whole (R238). -/
def FrameCompleted (s : State) (w : Nat) (ev : List Event) (u : State) : Prop :=
  Completed s w ev u ∧ u.torn = false

theorem Stage.leads_frameEnd (he : (s.tableAt .dispCommit)[i]? = some 0x0000#16) :
    Leads (Stage s .dispCommit i w ev) 1 (FrameCompleted s w ev) := by
  refine Stage.leads (by decide) fun u h ht => ?_
  have hentry : u.phaseTable[u.idx.toNat]? = some 0x0000#16 := by rw [h.phaseTable, h.idx, he]
  obtain ⟨-, -, hend⟩ := h.inv.step_tableEnd ht (by rw [h.phase]; rfl) hentry
  have hstep : step u = .next u.turnTaken.displayDone := hend h.phase
  have hstage : Stage s .idle 0 w (ev ++ []) u.turnTaken.displayDone :=
    h.next_noWait hstep ⟨rfl, rfl, rfl, rfl⟩ rfl rfl (List.append_nil _).symm ⟨rfl, rfl⟩
  rw [List.append_nil] at hstage
  exact ⟨_, hstep, ⟨hstage, rfl, rfl⟩, rfl⟩

/-- The events of the buffer transaction (R126-R128). -/
def bufferEvents (s : State) : List Event :=
  openEvents s.cfg (dcData s.cfg) ++ (List.range (fbLen s.cfg)).map (fun k => Event.byte (s.fbByte k)) ++
    [Event.done, Event.line .cs (csInactive s.cfg)]

/-- The whole of `DISPLAY`. -/
theorem Latched.leads_display_completed (hwf : s.cfg.wf = true) (hop : opField s.latch = 0x4#4)
    (hc : s.ctrl = .ready) :
    let Ls := s.cfg.frameStartSeq.length
    let Lc := s.cfg.frameCommitSeq.length
    Leads (Latched s (2 * (Ls - 1) + (fbLen s.cfg + 1) + 2 * (Lc - 1))) (1 + Ls + (fbLen s.cfg + 2) + Lc)
      (FrameCompleted s 0 (tableEvents s.cfg s.cfg.frameStartSeq ++ bufferEvents s ++
        tableEvents s.cfg s.cfg.frameCommitSeq)) := by
  intro Ls Lc
  obtain ⟨-, hstart, hcommit⟩ := Config.wf_tables hwf
  have hstartTable := Stage.leads_table (s := s) (p := .dispStart) (ev := [])
    (w := fbLen s.cfg + (1 + (2 * (Lc - 1) + 0))) rfl hstart fun i ev he => Stage.leads_end (.inr ⟨rfl, rfl⟩) he
  have hcommitTable (ev) := Stage.leads_table (s := s) (p := .dispCommit) (w := 0) (ev := ev) rfl hcommit
    fun i ev he => Stage.leads_frameEnd he
  have hwaits : 2 * (Ls - 1) + (fbLen s.cfg + 1) + 2 * (Lc - 1) =
      2 * (Ls - 1) + (fbLen s.cfg + (1 + (2 * (Lc - 1) + 0))) := by omega
  have hmoves : 1 + Ls + (fbLen s.cfg + 2) + Lc = 1 + (Ls + (1 + (fbLen s.cfg + (1 + Lc)))) := by omega
  have hevents : tableEvents s.cfg s.cfg.frameStartSeq ++ bufferEvents s =
      [] ++ tableEvents s.cfg s.cfg.frameStartSeq ++ openEvents s.cfg (dcData s.cfg) ++
        (List.range (fbLen s.cfg)).map (fun k => Event.byte (s.fbByte k)) ++
        [Event.done, Event.line .cs (csInactive s.cfg)] := by
    simp only [bufferEvents, List.nil_append, List.append_assoc]
  rw [hwaits, hmoves, hevents]
  exact (Latched.leads_display hop hc).trans (hstartTable.trans (Stage.leads_open.trans
    ((Stage.leads_bytes hwf).trans (Stage.leads_close.trans (hcommitTable _)))))

end

/-! ### The obligations -/

theorem Latched.refl {s : State} {w : Nat} (hi : BlockInv s) (hp : s.phase = .exec) (hw : AllWaitsReady s w) :
    Latched s w s := by
  have hidx : s.idx = 0 := by simpa only [IdxInRange, hp] using hi.idx
  exact ⟨⟨hi, rfl, rfl, ⟨rfl, rfl⟩, hp, by rw [hidx]; rfl, (List.append_nil _).symm, hw⟩, rfl⟩

/-- Settles O57: the phases of `INIT` one after the other (`Latched.leads_init_completed`). -/
theorem initRunsToReady : Obligations.InitRunsToReady := by
  intro s hi hp hop hc L n hwaits hthrough
  obtain ⟨t, hrun, -, hstage, hready, herr⟩ :=
    Latched.leads_init_completed hi.config hop hc s (.refl hi hp hwaits) hthrough
  have htrace : s.trace = [] := (hi.lines.1 hc).2.2.2
  have hidle := hstage.phase
  refine ⟨t, hrun, hready, herr, hstage.not_busy, hidle, ?rstDone, hstage.memory.1, ?trace⟩
  case rstDone => exact hstage.inv.resetOnce.mpr ⟨by simp [hready], by simp [hidle]⟩
  case trace => rw [hstage.trace, htrace]; rfl

/-- Settles O58: the phases of `DISPLAY` one after the other (`Latched.leads_display_completed`). -/
theorem displayStreamsWholeFrame : Obligations.DisplayStreamsWholeFrame := by
  intro s hi hp hop hc Ls Lc N n hwaits hthrough
  obtain ⟨t, hrun, -, ⟨hstage, hready, herr⟩, htorn⟩ :=
    Latched.leads_display_completed hi.config hop hc s (.refl hi hp hwaits) hthrough
  exact ⟨t, hrun, hready, htorn, herr, hstage.not_busy, hstage.phase, hstage.memory.1, hstage.trace⟩

end Sys2Proof.Machine
